-- ==== Sys2Proof/Word.lean ====
section
/-! DEFINITION. The word types of CORE (R6, R12): bytes, 32-bit words (MD5, SHA-1, SHA-224/256, command words,
STATUS) and 64-bit words (SHA-384/512, Keccak lanes, length and operand registers). Lengths, addresses and
register numbers are unbounded naturals (R13). -/

namespace Sys2Proof

/-- A byte: a word of width 8 (R12). -/
abbrev Byte := BitVec 8

/-- A word of width 32 (R6). -/
abbrev Word32 := BitVec 32

/-- A word of width 64 (R6). -/
abbrev Word64 := BitVec 64

end Sys2Proof
end

