-- ==== Sys2Proof/Syntax.lean ====
section
/-! DEFINITION. The syntax of CORE: the 78 commands (R76, one constructor per row of the opcode table), the twelve
variants (R3, R73), the four memories (R32), the registers by name (R24 to R31), and the five primitives by which
the host acts on CORE (R310). -/

namespace Sys2Proof

/-- The twelve algorithm variants, a closed set, in the order of their ALG codes 0 to 11 (R3, R73). -/
inductive Variant where
  | md5
  | sha1
  | sha224
  | sha256
  | sha384
  | sha512
  | sha3_224
  | sha3_256
  | sha3_384
  | sha3_512
  | shake128
  | shake256
deriving DecidableEq, Repr

/-- The four memories, each an address space of its own (R32 to R35). -/
inductive Space where
  | msg
  | pbuf
  | dout
  | xout
deriving DecidableEq, Repr

/-- The registers of CORE by name (R24, R25, R27 to R31). -/
inductive Reg where
  | cmd
  | status
  | mlen
  | plen
  | olen
  | dlen
  | xlen
  | bidx
  | opa
  | opn
  | res
  | opb (i : Fin 8)
  | md5h (i : Fin 4)
  | sha1h (i : Fin 5)
  | s32h (i : Fin 8)
  | s64h (i : Fin 8)
  | ka (i : Fin 25)
deriving DecidableEq, Repr

/-- What the host may do to a register (the column "host" of R24). -/
inductive Access where
  | rw
  | ro
  | wo
deriving DecidableEq, Repr

/-- The 78 commands, one per row of the opcode table (R76). No command has an operand in its word (R71). -/
inductive Instr where
  /-- ROTL8, word 0x00000001 (R106). -/
  | rotl8
  /-- ROTL16, word 0x00000101 (R107). -/
  | rotl16
  /-- ROTL32, word 0x00000201 (R108). -/
  | rotl32
  /-- ROTL64, word 0x00000301 (R109). -/
  | rotl64
  /-- ROTR8, word 0x00000002 (R110). -/
  | rotr8
  /-- ROTR16, word 0x00000102 (R111). -/
  | rotr16
  /-- ROTR32, word 0x00000202 (R112). -/
  | rotr32
  /-- ROTR64, word 0x00000302 (R113). -/
  | rotr64
  /-- LDW32BE, word 0x00000003 (R114). -/
  | ldw32be
  /-- LDW64BE, word 0x00000103 (R115). -/
  | ldw64be
  /-- LDW32LE, word 0x00000203 (R116). -/
  | ldw32le
  /-- LDW64LE, word 0x00000303 (R117). -/
  | ldw64le
  /-- STW32BE, word 0x00000004 (R118). -/
  | stw32be
  /-- STW64BE, word 0x00000104 (R119). -/
  | stw64be
  /-- STW32LE, word 0x00000204 (R120). -/
  | stw32le
  /-- STW64LE, word 0x00000304 (R121). -/
  | stw64le
  /-- INIT.MD5, word 0x00000010 (R133). -/
  | initMd5
  /-- INIT.SHA1, word 0x00000110 (R153). -/
  | initSha1
  /-- INIT.SHA224, word 0x00000210 (R178). -/
  | initSha224
  /-- INIT.SHA256, word 0x00000310 (R179). -/
  | initSha256
  /-- INIT.SHA384, word 0x00000410 (R180). -/
  | initSha384
  /-- INIT.SHA512, word 0x00000510 (R181). -/
  | initSha512
  /-- INIT.SHA3_224, word 0x00000610 (R224). -/
  | initSha3_224
  /-- INIT.SHA3_256, word 0x00000710 (R225). -/
  | initSha3_256
  /-- INIT.SHA3_384, word 0x00000810 (R226). -/
  | initSha3_384
  /-- INIT.SHA3_512, word 0x00000910 (R227). -/
  | initSha3_512
  /-- INIT.SHAKE128, word 0x00000a10 (R228). -/
  | initShake128
  /-- INIT.SHAKE256, word 0x00000b10 (R229). -/
  | initShake256
  /-- PAD.MD5, word 0x00000011 (R134). -/
  | padMd5
  /-- PAD.SHA1, word 0x00000111 (R154). -/
  | padSha1
  /-- PAD.SHA224, word 0x00000211 (R182). -/
  | padSha224
  /-- PAD.SHA256, word 0x00000311 (R183). -/
  | padSha256
  /-- PAD.SHA384, word 0x00000411 (R184). -/
  | padSha384
  /-- PAD.SHA512, word 0x00000511 (R185). -/
  | padSha512
  /-- PAD.SHA3_224, word 0x00000611 (R230). -/
  | padSha3_224
  /-- PAD.SHA3_256, word 0x00000711 (R231). -/
  | padSha3_256
  /-- PAD.SHA3_384, word 0x00000811 (R232). -/
  | padSha3_384
  /-- PAD.SHA3_512, word 0x00000911 (R233). -/
  | padSha3_512
  /-- PAD.SHAKE128, word 0x00000a11 (R234). -/
  | padShake128
  /-- PAD.SHAKE256, word 0x00000b11 (R235). -/
  | padShake256
  /-- COMPRESS.MD5, word 0x00000012 (R135). -/
  | compressMd5
  /-- COMPRESS.SHA1, word 0x00000112 (R155). -/
  | compressSha1
  /-- COMPRESS.SHA224, word 0x00000212 (R186). -/
  | compressSha224
  /-- COMPRESS.SHA256, word 0x00000312 (R187). -/
  | compressSha256
  /-- COMPRESS.SHA384, word 0x00000412 (R188). -/
  | compressSha384
  /-- COMPRESS.SHA512, word 0x00000512 (R189). -/
  | compressSha512
  /-- ABSORB.SHA3_224, word 0x00000612 (R236). -/
  | absorbSha3_224
  /-- ABSORB.SHA3_256, word 0x00000712 (R237). -/
  | absorbSha3_256
  /-- ABSORB.SHA3_384, word 0x00000812 (R238). -/
  | absorbSha3_384
  /-- ABSORB.SHA3_512, word 0x00000912 (R239). -/
  | absorbSha3_512
  /-- ABSORB.SHAKE128, word 0x00000a12 (R240). -/
  | absorbShake128
  /-- ABSORB.SHAKE256, word 0x00000b12 (R241). -/
  | absorbShake256
  /-- DIGEST.MD5, word 0x00000013 (R136). -/
  | digestMd5
  /-- DIGEST.SHA1, word 0x00000113 (R156). -/
  | digestSha1
  /-- DIGEST.SHA224, word 0x00000213 (R190). -/
  | digestSha224
  /-- DIGEST.SHA256, word 0x00000313 (R191). -/
  | digestSha256
  /-- DIGEST.SHA384, word 0x00000413 (R192). -/
  | digestSha384
  /-- DIGEST.SHA512, word 0x00000513 (R193). -/
  | digestSha512
  /-- SQUEEZE.SHA3_224, word 0x00000613 (R242). -/
  | squeezeSha3_224
  /-- SQUEEZE.SHA3_256, word 0x00000713 (R243). -/
  | squeezeSha3_256
  /-- SQUEEZE.SHA3_384, word 0x00000813 (R244). -/
  | squeezeSha3_384
  /-- SQUEEZE.SHA3_512, word 0x00000913 (R245). -/
  | squeezeSha3_512
  /-- SQUEEZE.SHAKE128, word 0x00000a13 (R246). -/
  | squeezeShake128
  /-- SQUEEZE.SHAKE256, word 0x00000b13 (R247). -/
  | squeezeShake256
  /-- HASH.MD5, word 0x00000014 (R263). -/
  | hashMd5
  /-- HASH.SHA1, word 0x00000114 (R264). -/
  | hashSha1
  /-- HASH.SHA224, word 0x00000214 (R265). -/
  | hashSha224
  /-- HASH.SHA256, word 0x00000314 (R266). -/
  | hashSha256
  /-- HASH.SHA384, word 0x00000414 (R267). -/
  | hashSha384
  /-- HASH.SHA512, word 0x00000514 (R268). -/
  | hashSha512
  /-- HASH.SHA3_224, word 0x00000614 (R269). -/
  | hashSha3_224
  /-- HASH.SHA3_256, word 0x00000714 (R270). -/
  | hashSha3_256
  /-- HASH.SHA3_384, word 0x00000814 (R271). -/
  | hashSha3_384
  /-- HASH.SHA3_512, word 0x00000914 (R272). -/
  | hashSha3_512
  /-- HASH.SHAKE128, word 0x00000a14 (R273). -/
  | hashShake128
  /-- HASH.SHAKE256, word 0x00000b14 (R274). -/
  | hashShake256
  /-- HEX, word 0x00000015 (R275). -/
  | hex
  /-- KECCAKF, word 0x00000016 (R219). -/
  | keccakf
deriving DecidableEq, Repr

/-- The five primitives of the host (R310). A register number `k` and an address `a` are naturals (R15). -/
inductive HostOp where
  /-- `RegRead(k)`. -/
  | regRead (k : Nat)
  /-- `RegWrite(k, v)`; with `k = 0x00` it issues the command word `v[31:0]` (R311). -/
  | regWrite (k : Nat) (v : Word64)
  /-- `MemRead(SPACE, a, 1)`. -/
  | memRead (sp : Space) (a : Nat)
  /-- `MemWrite(SPACE, a, 1, [b])`. -/
  | memWrite (sp : Space) (a : Nat) (b : Byte)
  /-- `Reset` (R330). -/
  | reset
deriving DecidableEq, Repr

/-- One value the host has read: "The observable result of a run is what the host read" (R312). -/
inductive HostRead where
  /-- The answer of `RegRead(k)`. -/
  | reg (k : Nat) (v : Word64)
  /-- The answer of `MemRead(SPACE, a, 1)`. -/
  | mem (sp : Space) (a : Nat) (b : Byte)
deriving DecidableEq, Repr

end Sys2Proof
end

