-- ==== Sys2Proof/Config.lean ====
section
/-! DEFINITION. What an implementation of CORE fixes: the three capacities (R7, R22), and the one free value, the
byte an address holds that nothing has written since reset (R37, R330, U3 of 93_implementation_defined.md). -/

namespace Sys2Proof

/-- The parameters R7 leaves to the implementation, in bytes. The legal ranges are `Config.legal` (WellFormed). -/
structure Config where
  msgCap : Nat
  pbufCap : Nat
  doutCap : Nat
deriving DecidableEq, Repr

/-- DESIGN CHOICE (log 1): the capacities 95_test_vectors.md uses unless a vector says otherwise. Every legal
configuration is covered by the claims, which hold for every value of the State field `cfg`. -/
def Config.default : Config where
  msgCap := 1048576
  pbufCap := 1048776
  doutCap := 1024

/-- The value of a byte that nothing has written since the `epoch`-th reset: "each byte holds some value that stays
the same until it is written, and no rule says which" (R37). A free value: no body, so nothing can be proved of it
(log 2). -/
opaque Config.unspecifiedByte : Nat → Space → Nat → Byte

end Sys2Proof
end

