-- ==== Sys2Proof/WellFormed.lean ====
section
/-! DEFINITION. Well-formedness: which configurations are legal (R7), and which 32-bit words are commands (R77). A
command has no operand (R71), so every term of `Instr` is well formed and there is nothing to check on one; what can
be ill formed is the word a host writes and the configuration a machine is built with. -/

namespace Sys2Proof

/-- The ranges of R7: `0 <= MSG_CAP <= 2^64 - 1`, `200 <= PBUF_CAP <= 2^64 - 1`, `64 <= DOUT_CAP <= 2^63 - 1`. -/
abbrev Config.legal (c : Config) : Prop :=
  c.msgCap ≤ 2 ^ 64 - 1 ∧ 200 ≤ c.pbufCap ∧ c.pbufCap ≤ 2 ^ 64 - 1 ∧ 64 ≤ c.doutCap ∧ c.doutCap ≤ 2 ^ 63 - 1

/-- How many values of SEL, from 0 up, an operation takes: four width codes (R74), four size and order codes (R75),
twelve variant codes (R73), or the one value 0; none for an OP outside R72. -/
def selCount (op : Byte) : Nat :=
  if op = 0x01 ∨ op = 0x02 ∨ op = 0x03 ∨ op = 0x04 then 4
  else if op = 0x10 ∨ op = 0x11 ∨ op = 0x12 ∨ op = 0x13 ∨ op = 0x14 then 12
  else if op = 0x15 ∨ op = 0x16 then 1
  else 0

/-- R77: a word is a command exactly when bits 31:12 are zero, OP is assigned and SEL is in the range OP takes. -/
abbrev legalWord (w : Word32) : Prop :=
  w.extractLsb' 12 20 = 0 ∧ (w.extractLsb' 8 4).toNat < selCount (w.extractLsb' 0 8)

end Sys2Proof
end

