-- ==== Sys2Proof/Decode.lean ====
section
/-! DEFINITION. The decoder, total on every 32-bit word and rejecting by name (R70 to R77), and after it the encoder
(R76: a word is OP + 256 * SEL). -/

namespace Sys2Proof

/-- Why a word is illegal (R77). -/
inductive IllegalWord where
  /-- A bit of 31:12 is not zero. -/
  | zeroField
  /-- OP is no value of R72. -/
  | unassignedOp
  /-- SEL is past the last one OP takes. -/
  | selOutOfRange
deriving DecidableEq, Repr

/-- What a command word is. -/
inductive Decoded where
  | instr (i : Instr)
  | illegal (why : IllegalWord)
deriving DecidableEq, Repr

/-- Bits 7:0 (R70). -/
def opField (w : Word32) : Byte := w.extractLsb' 0 8

/-- Bits 11:8 (R70). -/
def selField (w : Word32) : BitVec 4 := w.extractLsb' 8 4

/-- Bits 31:12, which must be 0 (R70). -/
def zeroField (w : Word32) : BitVec 20 := w.extractLsb' 12 20

/-- OP 0x01, ROTL, by the width code WS (R74). -/
def rotlRow : List Instr :=
  [.rotl8, .rotl16, .rotl32, .rotl64]

/-- OP 0x02, ROTR, by WS (R74). -/
def rotrRow : List Instr :=
  [.rotr8, .rotr16, .rotr32, .rotr64]

/-- OP 0x03, LDW, by the size and order code SO (R75). -/
def ldwRow : List Instr :=
  [.ldw32be, .ldw64be, .ldw32le, .ldw64le]

/-- OP 0x04, STW, by SO (R75). -/
def stwRow : List Instr :=
  [.stw32be, .stw64be, .stw32le, .stw64le]

/-- OP 0x10, INIT, by the variant code ALG (R73). -/
def initRow : List Instr :=
  [.initMd5, .initSha1, .initSha224, .initSha256, .initSha384, .initSha512, .initSha3_224, .initSha3_256,
    .initSha3_384, .initSha3_512, .initShake128, .initShake256]

/-- OP 0x11, PAD, by ALG (R73). -/
def padRow : List Instr :=
  [.padMd5, .padSha1, .padSha224, .padSha256, .padSha384, .padSha512, .padSha3_224, .padSha3_256,
    .padSha3_384, .padSha3_512, .padShake128, .padShake256]

/-- OP 0x12, BLOCK: COMPRESS for ALG 0 to 5, ABSORB for ALG 6 to 11 (R73). -/
def blockRow : List Instr :=
  [.compressMd5, .compressSha1, .compressSha224, .compressSha256, .compressSha384, .compressSha512,
    .absorbSha3_224, .absorbSha3_256, .absorbSha3_384, .absorbSha3_512, .absorbShake128, .absorbShake256]

/-- OP 0x13, OUT: DIGEST for ALG 0 to 5, SQUEEZE for ALG 6 to 11 (R73). -/
def outRow : List Instr :=
  [.digestMd5, .digestSha1, .digestSha224, .digestSha256, .digestSha384, .digestSha512, .squeezeSha3_224,
    .squeezeSha3_256, .squeezeSha3_384, .squeezeSha3_512, .squeezeShake128, .squeezeShake256]

/-- OP 0x14, HASH, by ALG (R73). -/
def hashRow : List Instr :=
  [.hashMd5, .hashSha1, .hashSha224, .hashSha256, .hashSha384, .hashSha512, .hashSha3_224, .hashSha3_256,
    .hashSha3_384, .hashSha3_512, .hashShake128, .hashShake256]

/-- OP 0x15, HEX, SEL 0 only (R72). -/
def hexRow : List Instr :=
  [.hex]

/-- OP 0x16, KECCAKF, SEL 0 only (R72). -/
def keccakfRow : List Instr :=
  [.keccakf]

/-- The opcode map (R72, R76): the commands of an OP in the order of their SEL values; empty for an unassigned OP. -/
def opRow (op : Byte) : List Instr :=
  if op = 0x01 then rotlRow
  else if op = 0x02 then rotrRow
  else if op = 0x03 then ldwRow
  else if op = 0x04 then stwRow
  else if op = 0x10 then initRow
  else if op = 0x11 then padRow
  else if op = 0x12 then blockRow
  else if op = 0x13 then outRow
  else if op = 0x14 then hashRow
  else if op = 0x15 then hexRow
  else if op = 0x16 then keccakfRow
  else []

/-- Decode a command word (R70 to R77). -/
def decode (w : Word32) : Decoded :=
  if zeroField w ≠ 0 then .illegal .zeroField
  else if opRow (opField w) = [] then .illegal .unassignedOp
  else
    match (opRow (opField w))[(selField w).toNat]? with
    | some i => .instr i
    | none => .illegal .selOutOfRange

/-- The instruction the decoder reads from the bits `w` of a table row of `nbits` bits. A command is one word, so
the bits above `nbits` are 0 and there is no later word (R70). -/
def decodeTableWord (nbits w : Nat) : Option Instr :=
  match decode (BitVec.ofNat 32 (w % 2 ^ nbits)) with
  | .instr i => some i
  | .illegal _ => none

/-- OP and SEL of each command (R72 to R76). -/
def Instr.code : Instr → Nat × Nat
  | .rotl8 => (0x01, 0)
  | .rotl16 => (0x01, 1)
  | .rotl32 => (0x01, 2)
  | .rotl64 => (0x01, 3)
  | .rotr8 => (0x02, 0)
  | .rotr16 => (0x02, 1)
  | .rotr32 => (0x02, 2)
  | .rotr64 => (0x02, 3)
  | .ldw32be => (0x03, 0)
  | .ldw64be => (0x03, 1)
  | .ldw32le => (0x03, 2)
  | .ldw64le => (0x03, 3)
  | .stw32be => (0x04, 0)
  | .stw64be => (0x04, 1)
  | .stw32le => (0x04, 2)
  | .stw64le => (0x04, 3)
  | .initMd5 => (0x10, 0)
  | .initSha1 => (0x10, 1)
  | .initSha224 => (0x10, 2)
  | .initSha256 => (0x10, 3)
  | .initSha384 => (0x10, 4)
  | .initSha512 => (0x10, 5)
  | .initSha3_224 => (0x10, 6)
  | .initSha3_256 => (0x10, 7)
  | .initSha3_384 => (0x10, 8)
  | .initSha3_512 => (0x10, 9)
  | .initShake128 => (0x10, 10)
  | .initShake256 => (0x10, 11)
  | .padMd5 => (0x11, 0)
  | .padSha1 => (0x11, 1)
  | .padSha224 => (0x11, 2)
  | .padSha256 => (0x11, 3)
  | .padSha384 => (0x11, 4)
  | .padSha512 => (0x11, 5)
  | .padSha3_224 => (0x11, 6)
  | .padSha3_256 => (0x11, 7)
  | .padSha3_384 => (0x11, 8)
  | .padSha3_512 => (0x11, 9)
  | .padShake128 => (0x11, 10)
  | .padShake256 => (0x11, 11)
  | .compressMd5 => (0x12, 0)
  | .compressSha1 => (0x12, 1)
  | .compressSha224 => (0x12, 2)
  | .compressSha256 => (0x12, 3)
  | .compressSha384 => (0x12, 4)
  | .compressSha512 => (0x12, 5)
  | .absorbSha3_224 => (0x12, 6)
  | .absorbSha3_256 => (0x12, 7)
  | .absorbSha3_384 => (0x12, 8)
  | .absorbSha3_512 => (0x12, 9)
  | .absorbShake128 => (0x12, 10)
  | .absorbShake256 => (0x12, 11)
  | .digestMd5 => (0x13, 0)
  | .digestSha1 => (0x13, 1)
  | .digestSha224 => (0x13, 2)
  | .digestSha256 => (0x13, 3)
  | .digestSha384 => (0x13, 4)
  | .digestSha512 => (0x13, 5)
  | .squeezeSha3_224 => (0x13, 6)
  | .squeezeSha3_256 => (0x13, 7)
  | .squeezeSha3_384 => (0x13, 8)
  | .squeezeSha3_512 => (0x13, 9)
  | .squeezeShake128 => (0x13, 10)
  | .squeezeShake256 => (0x13, 11)
  | .hashMd5 => (0x14, 0)
  | .hashSha1 => (0x14, 1)
  | .hashSha224 => (0x14, 2)
  | .hashSha256 => (0x14, 3)
  | .hashSha384 => (0x14, 4)
  | .hashSha512 => (0x14, 5)
  | .hashSha3_224 => (0x14, 6)
  | .hashSha3_256 => (0x14, 7)
  | .hashSha3_384 => (0x14, 8)
  | .hashSha3_512 => (0x14, 9)
  | .hashShake128 => (0x14, 10)
  | .hashShake256 => (0x14, 11)
  | .hex => (0x15, 0)
  | .keccakf => (0x16, 0)

/-- The word of a command: "The value of a command word is OP + 256 * SEL" (R76). -/
def encode (i : Instr) : Word32 := BitVec.ofNat 32 (i.code.1 + 256 * i.code.2)

/-- The command that loads the initial state of a variant (R72, OP 0x10). -/
def Variant.init : Variant → Instr
  | .md5 => .initMd5
  | .sha1 => .initSha1
  | .sha224 => .initSha224
  | .sha256 => .initSha256
  | .sha384 => .initSha384
  | .sha512 => .initSha512
  | .sha3_224 => .initSha3_224
  | .sha3_256 => .initSha3_256
  | .sha3_384 => .initSha3_384
  | .sha3_512 => .initSha3_512
  | .shake128 => .initShake128
  | .shake256 => .initShake256

/-- The command that pads a message for a variant (R72, OP 0x11). -/
def Variant.pad : Variant → Instr
  | .md5 => .padMd5
  | .sha1 => .padSha1
  | .sha224 => .padSha224
  | .sha256 => .padSha256
  | .sha384 => .padSha384
  | .sha512 => .padSha512
  | .sha3_224 => .padSha3_224
  | .sha3_256 => .padSha3_256
  | .sha3_384 => .padSha3_384
  | .sha3_512 => .padSha3_512
  | .shake128 => .padShake128
  | .shake256 => .padShake256

/-- The command that processes one block of a variant: COMPRESS or ABSORB (R72, OP 0x12). -/
def Variant.blockCmd : Variant → Instr
  | .md5 => .compressMd5
  | .sha1 => .compressSha1
  | .sha224 => .compressSha224
  | .sha256 => .compressSha256
  | .sha384 => .compressSha384
  | .sha512 => .compressSha512
  | .sha3_224 => .absorbSha3_224
  | .sha3_256 => .absorbSha3_256
  | .sha3_384 => .absorbSha3_384
  | .sha3_512 => .absorbSha3_512
  | .shake128 => .absorbShake128
  | .shake256 => .absorbShake256

/-- The command that writes the output of a variant: DIGEST or SQUEEZE (R72, OP 0x13). -/
def Variant.out : Variant → Instr
  | .md5 => .digestMd5
  | .sha1 => .digestSha1
  | .sha224 => .digestSha224
  | .sha256 => .digestSha256
  | .sha384 => .digestSha384
  | .sha512 => .digestSha512
  | .sha3_224 => .squeezeSha3_224
  | .sha3_256 => .squeezeSha3_256
  | .sha3_384 => .squeezeSha3_384
  | .sha3_512 => .squeezeSha3_512
  | .shake128 => .squeezeShake128
  | .shake256 => .squeezeShake256

/-- The command that hashes in one command (R72, OP 0x14). -/
def Variant.hash : Variant → Instr
  | .md5 => .hashMd5
  | .sha1 => .hashSha1
  | .sha224 => .hashSha224
  | .sha256 => .hashSha256
  | .sha384 => .hashSha384
  | .sha512 => .hashSha512
  | .sha3_224 => .hashSha3_224
  | .sha3_256 => .hashSha3_256
  | .sha3_384 => .hashSha3_384
  | .sha3_512 => .hashSha3_512
  | .shake128 => .hashShake128
  | .shake256 => .hashShake256

end Sys2Proof
end

