-- ==== Sys2Proof/Machine/State.lean ====
section
/-! DEFINITION. The whole state of CORE (R20): the registers of R24, R25 and R27 to R31 and the four memories of R32
to R35, as plain data; four fields of the model's own (log 1, 3, 4, 5); the codes of the one fault (R302); why a step
of the model can stop; and the reset state (R37, R330). The register CMD holds nothing (R311) and has no field. -/

namespace Sys2Proof.Machine

/-- A memory: the bytes written since reset, as address and byte pairs, addresses strictly rising. An address that
is not listed holds no known value; what the machine reads there is the free value of log 2. -/
abbrev Memory := List Host.Cell

/-- The canonical form of a memory: strictly rising addresses. Every entry is a byte and an unlisted address has
no known value, so no entry equals what an unlisted address reads as (log 8). -/
abbrev Memory.wf (m : Memory) : Prop := m.Pairwise (fun x y => x.1 < y.1)

/-- The codes of STATUS.FCODE that are ever produced, besides 0 (R302). -/
inductive FaultCode where
  /-- The command word is not one of the 78. -/
  | illcmd
  /-- A length or index register describes a buffer or block that does not exist. -/
  | framing
  /-- A well-formed request needs more memory than this CORE has. -/
  | cap
deriving DecidableEq, Repr

/-- Why the model stops. A Fault of the spec is not such a stop: it is a next state (R301). -/
inductive Fault where
  /-- Raised by HEX alone, when DLEN is above DOUT_CAP: DOUT has no such address (R32). R275 says it never happens,
  and `Safety.Inv` says why: no reachable state has such a DLEN. Safe: the model stops where the spec gives no
  effect (log 6). -/
  | addressBeyondCapacity
deriving DecidableEq, Repr

/-- Why the model refuses an instruction. -/
inductive Refusal where
  /-- The instruction has no meaning in the model. Raised by no arm of `exec`; safe. -/
  | notModelled (mnemonic : String)
deriving DecidableEq, Repr

/-- The state of CORE. -/
structure State where
  /-- STATUS (R24, R36). -/
  status : Word32
  /-- MLEN (R24). -/
  mlen : Word64
  /-- PLEN (R24). -/
  plen : Word64
  /-- OLEN (R24). -/
  olen : Word64
  /-- DLEN (R24). -/
  dlen : Word64
  /-- XLEN (R24). -/
  xlen : Word64
  /-- BIDX (R23, R24). -/
  bidx : Word64
  /-- OPA (R25). -/
  opa : Word64
  /-- OPN (R25). -/
  opn : Word64
  /-- RES (R25). -/
  res : Word64
  /-- OPB[0..7] (R25). -/
  opb : Vector Byte 8
  /-- MD5.H[0..3] (R27). -/
  md5h : Vector Word32 4
  /-- SHA1.H[0..4] (R28). -/
  sha1h : Vector Word32 5
  /-- S32.H[0..7] (R29). -/
  s32h : Vector Word32 8
  /-- S64.H[0..7] (R30). -/
  s64h : Vector Word64 8
  /-- KA[0..24]; lane (x, y) is `ka[x + 5 * y]` (R31). -/
  ka : Vector Word64 25
  /-- MSG (R33). -/
  msg : Memory
  /-- PBUF (R34). -/
  pbuf : Memory
  /-- DOUT (R35). -/
  dout : Memory
  /-- XOUT (R35). -/
  xout : Memory
  /-- The model's own: the capacities (R7, R22), which no step changes (log 1). -/
  cfg : Config
  /-- The model's own: how many resets there have been, the argument of the free values (log 3). -/
  epoch : Nat
  /-- The model's own: the host primitives still to come, the next one first (R310, R312; log 4). -/
  pending : List HostOp
  /-- The model's own: what the host has read, newest first (R312; log 5). -/
  reads : List HostRead
deriving DecidableEq, Repr

/-- The outcome of a step or of an instruction. -/
abbrev Result := Host.Outcome State Fault Refusal

/-- The state after reset: every register 0 and no byte of any memory known (R37, R330). -/
def State.reset : State where
  status := 0
  mlen := 0
  plen := 0
  olen := 0
  dlen := 0
  xlen := 0
  bidx := 0
  opa := 0
  opn := 0
  res := 0
  opb := Vector.replicate 8 0
  md5h := Vector.replicate 4 0
  sha1h := Vector.replicate 5 0
  s32h := Vector.replicate 8 0
  s64h := Vector.replicate 8 0
  ka := Vector.replicate 25 0
  msg := []
  pbuf := []
  dout := []
  xout := []
  cfg := Config.default
  epoch := 0
  pending := []
  reads := []

end Sys2Proof.Machine
end

