-- ==== Sys2Proof/Machine/Flags.lean ====
section
/-! DEFINITION. The one flag STATUS.FAULT and the one code field STATUS.FCODE (R24, R36, R302). CORE computes no
carry, zero, sign or overflow flag (R36). -/

namespace Sys2Proof.Machine

/-- The number of a code in STATUS.FCODE (R302). -/
def FaultCode.code : FaultCode → BitVec 4
  | .illcmd => 1
  | .framing => 2
  | .cap => 3

/-- STATUS.FAULT, bit 0 (R36). -/
def State.faulted (s : State) : Bool := s.status.getLsbD 0

/-- STATUS.FCODE, bits 11:8 (R36). -/
def State.fcode (s : State) : BitVec 4 := s.status.extractLsb' 8 4

/-- STATUS with FAULT set to 1 and FCODE to `c`, the other bits as they were (R301). -/
def statusWithFault (st : Word32) (c : BitVec 4) : Word32 :=
  (st &&& 0xfffff0fe) ||| 1 ||| (c.setWidth 32 <<< 8)

end Sys2Proof.Machine
end

