-- ==== Sys2Proof/Machine/Ops.lean ====
section
/-! DEFINITION. The named operations on the memories and registers: reading and writing runs of bytes (R15, R32),
the capacities (R7), raising the Fault (R301), and Reset, the only way out of one (R304, R330). -/

namespace Sys2Proof

/-- The capacity in bytes of each memory (R7, R33 to R35); XOUT has twice that of DOUT. -/
def Config.capacity (c : Config) : Space → Nat
  | .msg => c.msgCap
  | .pbuf => c.pbufCap
  | .dout => c.doutCap
  | .xout => 2 * c.doutCap

end Sys2Proof

namespace Sys2Proof.Machine

/-- The byte listed at an address, if the address has been written since reset. -/
def Memory.get? : Memory → Nat → Option Byte
  | [], _ => none
  | (k, b) :: m, a => if k = a then some b else Memory.get? m a

/-- The cells of a run of bytes laid out from address `a` upward (R51). -/
def cellsAt : Nat → List Byte → Memory
  | _, [] => []
  | a, b :: bs => (a, b) :: cellsAt (a + 1) bs

/-- Write a run of bytes at address `a`: the cells below it, the run, the cells above it. -/
def Memory.writeBytes (m : Memory) (a : Nat) (bs : List Byte) : Memory :=
  m.filter (fun x => decide (x.1 < a)) ++ cellsAt a bs ++ m.filter (fun x => decide (a + bs.length ≤ x.1))

/-- The memory of a space. -/
def State.mem (s : State) : Space → Memory
  | .msg => s.msg
  | .pbuf => s.pbuf
  | .dout => s.dout
  | .xout => s.xout

/-- Replace the memory of a space. -/
def State.setMem (s : State) (sp : Space) (m : Memory) : State :=
  match sp with
  | .msg => { s with msg := m }
  | .pbuf => { s with pbuf := m }
  | .dout => { s with dout := m }
  | .xout => { s with xout := m }

/-- The byte at an address: the one written last since reset, or else the value the address has held since reset,
of which no rule says which it is (R37, R333; log 2). -/
def State.peek (s : State) (sp : Space) (a : Nat) : Byte :=
  match (s.mem sp).get? a with
  | some b => b
  | none => Config.unspecifiedByte s.epoch sp a

/-- `MemRead(SPACE, a, n)` as a command makes it (R15). -/
def State.readBytes (s : State) (sp : Space) (a n : Nat) : List Byte :=
  (List.range n).map fun i => s.peek sp (a + i)

/-- `MemWrite(SPACE, a, n, bs)` as a command makes it (R15), with `n` the length of `bs`. -/
def State.writeBytes (s : State) (sp : Space) (a : Nat) (bs : List Byte) : State :=
  s.setMem sp ((s.mem sp).writeBytes a bs)

/-- The state `raise Fault(code)` leaves (R301): if no fault is recorded, STATUS takes FAULT and the code; nothing
else changes. -/
def State.raised (c : FaultCode) (s : State) : State :=
  if s.faulted then s else { s with status := statusWithFault s.status c.code }

/-- `raise Fault(code)` (R301): the command ends in the state `State.raised`. -/
def raise (c : FaultCode) (s : State) : Result := .next (s.raised c)

/-- The primitive `Reset` (R330), the one way out of a fault: every register 0, every byte of the four memories
unspecified anew. What is not CORE's stays: the configuration, the primitives still to come, what the host has read
(log 3, 4, 5). -/
def State.hostReset (s : State) : State :=
  { State.reset with cfg := s.cfg, epoch := s.epoch + 1, pending := s.pending, reads := s.reads }

end Sys2Proof.Machine
end

