-- ==== Sys2Proof/Machine/Operands.lean ====
section
/-! DEFINITION. The operand forms of the commands: rotation and byte order (R100 to R105), the words of a block
(R52), the variant table (R260), the message MSG[0..MLEN) and the block BIDX of PBUF, and the tests on lengths of
R303, all on unbounded naturals. -/

namespace Sys2Proof

/-- Block size in bytes, the rate for a sponge variant (R260, column bs). -/
def Variant.blockSize : Variant → Nat
  | .md5 => 64
  | .sha1 => 64
  | .sha224 => 64
  | .sha256 => 64
  | .sha384 => 128
  | .sha512 => 128
  | .sha3_224 => 144
  | .sha3_256 => 136
  | .sha3_384 => 104
  | .sha3_512 => 72
  | .shake128 => 168
  | .shake256 => 136

/-- Width in bytes of the length field, 0 for the sponge variants, which have none (R260, column lf). -/
def Variant.lenField : Variant → Nat
  | .md5 => 8
  | .sha1 => 8
  | .sha224 => 8
  | .sha256 => 8
  | .sha384 => 16
  | .sha512 => 16
  | .sha3_224 => 0
  | .sha3_256 => 0
  | .sha3_384 => 0
  | .sha3_512 => 0
  | .shake128 => 0
  | .shake256 => 0

/-- The padded length of a message of `n` bytes (R262): `bs * ((n + lf) div bs + 1)`. -/
def Variant.paddedLen (v : Variant) (n : Nat) : Nat :=
  v.blockSize * ((n + v.lenField) / v.blockSize + 1)

end Sys2Proof

namespace Sys2Proof.Machine

/-- `rotl_w(x, n)` (R100). -/
def rotl {w : Nat} (x : BitVec w) (n : Nat) : BitVec w :=
  BitVec.ofNat w (x.toNat * 2 ^ (n % w) % 2 ^ w + x.toNat / 2 ^ (w - n % w))

/-- `rotr_w(x, n)` (R101). -/
def rotr {w : Nat} (x : BitVec w) (n : Nat) : BitVec w :=
  BitVec.ofNat w (x.toNat / 2 ^ (n % w) + x.toNat * 2 ^ (w - n % w) % 2 ^ w)

/-- The number a sequence of bytes stands for, the first byte the most significant (R102). -/
def beNat (bs : List Byte) : Nat := bs.foldl (fun acc b => acc * 256 + b.toNat) 0

/-- The number a sequence of bytes stands for, the first byte the least significant (R103). -/
def leNat : List Byte → Nat
  | [] => 0
  | b :: bs => b.toNat + 256 * leNat bs

/-- `be_w(s)` (R102). -/
def beWord (w : Nat) (bs : List Byte) : BitVec w := BitVec.ofNat w (beNat bs)

/-- `le_w(s)` (R103). -/
def leWord (w : Nat) (bs : List Byte) : BitVec w := BitVec.ofNat w (leNat bs)

/-- `tobe_w(x)` (R104). -/
def toBe {w : Nat} (x : BitVec w) : List Byte :=
  (List.range (w / 8)).map fun i => BitVec.ofNat 8 (x.toNat / 2 ^ (w - 8 - 8 * i))

/-- `tole_w(x)` (R105). -/
def toLe {w : Nat} (x : BitVec w) : List Byte :=
  (List.range (w / 8)).map fun i => BitVec.ofNat 8 (x.toNat / 2 ^ (8 * i))

/-- The bytes `s[a..a+n)` of a sequence (R14). -/
def slice (bs : List Byte) (a n : Nat) : List Byte := (bs.drop a).take n

/-- The sixteen words of a block in address order, each assembled from w/8 bytes (R52). -/
def blockWords {w : Nat} (assemble : List Byte → BitVec w) (B : List Byte) : List (BitVec w) :=
  (List.range 16).map fun j => assemble (slice B (w / 8 * j) (w / 8))

/-- Merkle–Damgård padding (R134, R154, R177): the message, 0x80, zeros to a whole number of blocks, the length
field. -/
def mdPad (bs lf : Nat) (field m : List Byte) : List Byte :=
  m ++ [0x80] ++ List.replicate (bs * ((m.length + lf) / bs + 1) - m.length - 1 - lf) 0 ++ field

/-- The message MSG[0..MLEN) (R33). -/
def State.message (s : State) : List Byte := s.readBytes .msg 0 s.mlen.toNat

/-- Block BIDX of PBUF, for blocks of `bs` bytes (R34). -/
def State.block (s : State) (bs : Nat) : List Byte := s.readBytes .pbuf (bs * s.bidx.toNat) bs

/-- The test of R303 step 5 fails: PLEN exceeds PBUF, or block BIDX is not wholly inside PBUF[0..PLEN). -/
abbrev State.blockMissing (s : State) (bs : Nat) : Prop :=
  s.cfg.pbufCap < s.plen.toNat ∨ s.plen.toNat < bs * (s.bidx.toNat + 1)

/-- The block index moves on (R23). -/
def State.nextBlock (s : State) : State := { s with bidx := s.bidx + 1 }

/-- PBUF[0..P) takes the padded message and PLEN its length (R134). -/
def State.storePadded (s : State) (P : Nat) (p : List Byte) : State :=
  { s.writeBytes .pbuf 0 p with plen := BitVec.ofNat 64 P }

/-- DOUT[0..L) takes the digest and DLEN its length (R136). -/
def State.storeDigest (s : State) (L : Nat) (d : List Byte) : State :=
  { s.writeBytes .dout 0 d with dlen := BitVec.ofNat 64 L }

/-- A PAD command of variant `v` with the effect `pad` (R134, R249): the tests of R303 steps 2 and 3, then the
effect. -/
def padCommand (v : Variant) (pad : State → State) (s : State) : Result :=
  if s.cfg.msgCap < s.mlen.toNat then raise .framing s
  else if s.cfg.pbufCap < v.paddedLen s.mlen.toNat then raise .cap s
  else .next (pad s)

/-- A COMPRESS or ABSORB command of variant `v` with the effect `block` (R135, R250): the test of R303 step 5, then
the effect. -/
def blockCommand (v : Variant) (block : State → State) (s : State) : Result :=
  if s.blockMissing v.blockSize then raise .framing s else .next (block s)

end Sys2Proof.Machine
end

