-- ==== Sys2Proof/Machine/BitOps.lean ====
section
/-! DEFINITION. The sixteen BitOps commands (R106 to R121). -/

namespace Sys2Proof.Machine

/-- RES takes a word zero-extended to 64 bits (R106, R114). -/
def State.setRes {w : Nat} (s : State) (x : BitVec w) : State := { s with res := x.setWidth 64 }

/-- The rotates: OPA's low `w` bits rotated by OPN into RES (R106 to R113). -/
def rotateCommand (w : Nat) (rot : BitVec w → Nat → BitVec w) (s : State) : Result :=
  .next (s.setRes (rot (s.opa.setWidth w) s.opn.toNat))

/-- LDW: the first w/8 bytes of OPB assembled into RES (R114 to R117). -/
def loadWordCommand (w : Nat) (assemble : List Byte → BitVec w) (s : State) : Result :=
  .next (s.setRes (assemble (slice s.opb.toList 0 (w / 8))))

/-- OPB with its first bytes replaced by `bs`, the rest as they were (R118). -/
def replaceFirst (opb : Vector Byte 8) (bs : List Byte) : Vector Byte 8 :=
  Vector.ofFn fun i => bs.getD i.val opb[i]

/-- STW: OPA's low `w` bits serialised into the first w/8 bytes of OPB (R118 to R121). -/
def storeWordCommand (w : Nat) (serialise : BitVec w → List Byte) (s : State) : Result :=
  .next { s with opb := replaceFirst s.opb (serialise (s.opa.setWidth w)) }

/-- ROTL8 (R106). -/
def execRotl8 (s : State) : Result := rotateCommand 8 rotl s

/-- ROTL16 (R107). -/
def execRotl16 (s : State) : Result := rotateCommand 16 rotl s

/-- ROTL32 (R108). -/
def execRotl32 (s : State) : Result := rotateCommand 32 rotl s

/-- ROTL64 (R109). -/
def execRotl64 (s : State) : Result := rotateCommand 64 rotl s

/-- ROTR8 (R110). -/
def execRotr8 (s : State) : Result := rotateCommand 8 rotr s

/-- ROTR16 (R111). -/
def execRotr16 (s : State) : Result := rotateCommand 16 rotr s

/-- ROTR32 (R112). -/
def execRotr32 (s : State) : Result := rotateCommand 32 rotr s

/-- ROTR64 (R113). -/
def execRotr64 (s : State) : Result := rotateCommand 64 rotr s

/-- LDW32BE (R114). -/
def execLdw32be (s : State) : Result := loadWordCommand 32 (beWord 32) s

/-- LDW64BE (R115). -/
def execLdw64be (s : State) : Result := loadWordCommand 64 (beWord 64) s

/-- LDW32LE (R116). -/
def execLdw32le (s : State) : Result := loadWordCommand 32 (leWord 32) s

/-- LDW64LE (R117). -/
def execLdw64le (s : State) : Result := loadWordCommand 64 (leWord 64) s

/-- STW32BE (R118). -/
def execStw32be (s : State) : Result := storeWordCommand 32 toBe s

/-- STW64BE (R119). -/
def execStw64be (s : State) : Result := storeWordCommand 64 toBe s

/-- STW32LE (R120). -/
def execStw32le (s : State) : Result := storeWordCommand 32 toLe s

/-- STW64LE (R121). -/
def execStw64le (s : State) : Result := storeWordCommand 64 toLe s

end Sys2Proof.Machine
end

