-- ==== Sys2Proof/Machine/Md5.lean ====
section
/-! DEFINITION. The MD5 engine (R130 to R136). -/

namespace Sys2Proof.Machine

/-- MD5_IV (R130). -/
def md5Iv : Vector Word32 4 :=
  #v[0x67452301, 0xefcdab89, 0x98badcfe, 0x10325476]

/-- The additive constants MD5_K[0..63], in the rows of their table (R132). -/
def md5K : List Word32 :=
  [[0xd76aa478, 0xe8c7b756, 0x242070db, 0xc1bdceee],
   [0xf57c0faf, 0x4787c62a, 0xa8304613, 0xfd469501],
   [0x698098d8, 0x8b44f7af, 0xffff5bb1, 0x895cd7be],
   [0x6b901122, 0xfd987193, 0xa679438e, 0x49b40821],
   [0xf61e2562, 0xc040b340, 0x265e5a51, 0xe9b6c7aa],
   [0xd62f105d, 0x02441453, 0xd8a1e681, 0xe7d3fbc8],
   [0x21e1cde6, 0xc33707d6, 0xf4d50d87, 0x455a14ed],
   [0xa9e3e905, 0xfcefa3f8, 0x676f02d9, 0x8d2a4c8a],
   [0xfffa3942, 0x8771f681, 0x6d9d6122, 0xfde5380c],
   [0xa4beea44, 0x4bdecfa9, 0xf6bb4b60, 0xbebfbc70],
   [0x289b7ec6, 0xeaa127fa, 0xd4ef3085, 0x04881d05],
   [0xd9d4d039, 0xe6db99e5, 0x1fa27cf8, 0xc4ac5665],
   [0xf4292244, 0x432aff97, 0xab9423a7, 0xfc93a039],
   [0x655b59c3, 0x8f0ccc92, 0xffeff47d, 0x85845dd1],
   [0x6fa87e4f, 0xfe2ce6e0, 0xa3014314, 0x4e0811a1],
   [0xf7537e82, 0xbd3af235, 0x2ad7d2bb, 0xeb86d391]].flatten

/-- The rotate amount MD5_S of step `i`, by round and by i mod 4 (R132). -/
def md5S (i : Nat) : Nat :=
  (([[7, 12, 17, 22], [5, 9, 14, 20], [4, 11, 16, 23], [6, 10, 15, 21]].getD (i / 16) []).getD (i % 4) 0)

/-- The message-word index MD5_G of step `i` (R132). -/
def md5G (i : Nat) : Nat :=
  match i / 16 with
  | 0 => i
  | 1 => (5 * i + 1) % 16
  | 2 => (3 * i + 5) % 16
  | _ => 7 * i % 16

/-- The function of round `q`: F, G, H, I (R131). -/
def md5Mix (q : Nat) (b c d : Word32) : Word32 :=
  match q with
  | 0 => (b &&& c) ||| (~~~b &&& d)
  | 1 => (b &&& d) ||| (c &&& ~~~d)
  | 2 => b ^^^ c ^^^ d
  | _ => c ^^^ (b ||| ~~~d)

/-- The working variables of MD5 (R135). -/
structure Md5Vars where
  a : Word32
  b : Word32
  c : Word32
  d : Word32
deriving DecidableEq, Repr

/-- Step `i` (R135): `a,b,c,d ← d, b+rotl(a+f+x+k, s), b, c`. -/
def md5Step (X : List Word32) (v : Md5Vars) (i : Nat) : Md5Vars where
  a := v.d
  b := v.b + rotl (v.a + md5Mix (i / 16) v.b v.c v.d + X.getD (md5G i) 0 + md5K.getD i 0) (md5S i)
  c := v.b
  d := v.c

/-- The working variables after the first `n` steps on the words `X`. -/
def md5Steps (X : List Word32) (v : Md5Vars) (n : Nat) : Md5Vars := (List.range n).foldl (md5Step X) v

/-- The compression of one block, feed-forward included (R135). -/
def md5Compress (H : Vector Word32 4) (B : List Byte) : Vector Word32 4 :=
  let v := md5Steps (blockWords (leWord 32) B) ⟨H[0], H[1], H[2], H[3]⟩ 64
  #v[H[0] + v.a, H[1] + v.b, H[2] + v.c, H[3] + v.d]

/-- The padded message of MD5 (R134). -/
def md5Pad (m : List Byte) : List Byte := mdPad 64 8 (toLe (BitVec.ofNat 64 (8 * m.length))) m

/-- The effect of INIT.MD5 (R133). -/
def State.initMd5 (s : State) : State := { s with md5h := md5Iv, bidx := 0 }

/-- The effect of PAD.MD5 (R134). -/
def State.padMd5 (s : State) : State := s.storePadded (Variant.md5.paddedLen s.mlen.toNat) (md5Pad s.message)

/-- The effect of COMPRESS.MD5 (R135). -/
def State.compressMd5 (s : State) : State := { s with md5h := md5Compress s.md5h (s.block 64) }.nextBlock

/-- The effect of DIGEST.MD5 (R136). -/
def State.digestMd5 (s : State) : State := s.storeDigest 16 (s.md5h.toList.flatMap toLe)

/-- INIT.MD5 (R133). -/
def execInitMd5 (s : State) : Result := .next s.initMd5

/-- PAD.MD5 (R134). -/
def execPadMd5 (s : State) : Result := padCommand .md5 State.padMd5 s

/-- COMPRESS.MD5 (R135). -/
def execCompressMd5 (s : State) : Result := blockCommand .md5 State.compressMd5 s

/-- DIGEST.MD5 (R136). -/
def execDigestMd5 (s : State) : Result := .next s.digestMd5

end Sys2Proof.Machine
end

