-- ==== Sys2Proof/Machine/Sha1.lean ====
section
/-! DEFINITION. The SHA-1 engine (R150 to R156). -/

namespace Sys2Proof.Machine

/-- SHA1_IV (R150). -/
def sha1Iv : Vector Word32 5 :=
  #v[0x67452301, 0xefcdab89, 0x98badcfe, 0x10325476, 0xc3d2e1f0]

/-- The round constant SHA1_K of quartile `q` (R151). -/
def sha1K (q : Nat) : Word32 :=
  match q with
  | 0 => 0x5a827999
  | 1 => 0x6ed9eba1
  | 2 => 0x8f1bbcdc
  | _ => 0xca62c1d6

/-- The function of quartile `q`: Ch, Parity, Maj, Parity (R151). -/
def sha1Mix (q : Nat) (b c d : Word32) : Word32 :=
  match q with
  | 0 => (b &&& c) ^^^ (~~~b &&& d)
  | 1 => b ^^^ c ^^^ d
  | 2 => (b &&& c) ^^^ (b &&& d) ^^^ (c &&& d)
  | _ => b ^^^ c ^^^ d

/-- The next word of the schedule, `ws` being the words before it (R152). -/
def sha1NextWord (ws : List Word32) : Word32 :=
  rotl (ws.getD (ws.length - 3) 0 ^^^ ws.getD (ws.length - 8) 0 ^^^ ws.getD (ws.length - 14) 0 ^^^
    ws.getD (ws.length - 16) 0) 1

/-- `n` further words of the schedule. -/
def sha1Extend : Nat → List Word32 → List Word32
  | 0, ws => ws
  | n + 1, ws => sha1Extend n (ws ++ [sha1NextWord ws])

/-- The message schedule W[0..79] of a block (R152). -/
def sha1Schedule (B : List Byte) : List Word32 := sha1Extend 64 (blockWords (beWord 32) B)

/-- The working variables of SHA-1 (R155). -/
structure Sha1Vars where
  a : Word32
  b : Word32
  c : Word32
  d : Word32
  e : Word32
deriving DecidableEq, Repr

/-- Round `i` (R155). -/
def sha1Round (W : List Word32) (v : Sha1Vars) (i : Nat) : Sha1Vars where
  a := rotl v.a 5 + sha1Mix (i / 20) v.b v.c v.d + v.e + W.getD i 0 + sha1K (i / 20)
  b := v.a
  c := rotl v.b 30
  d := v.c
  e := v.d

/-- The working variables after the first `n` rounds on the schedule `W`. -/
def sha1Rounds (W : List Word32) (v : Sha1Vars) (n : Nat) : Sha1Vars := (List.range n).foldl (sha1Round W) v

/-- The compression of one block, feed-forward included (R155). -/
def sha1Compress (H : Vector Word32 5) (B : List Byte) : Vector Word32 5 :=
  let v := sha1Rounds (sha1Schedule B) ⟨H[0], H[1], H[2], H[3], H[4]⟩ 80
  #v[H[0] + v.a, H[1] + v.b, H[2] + v.c, H[3] + v.d, H[4] + v.e]

/-- The padded message of SHA-1 (R154). -/
def sha1Pad (m : List Byte) : List Byte := mdPad 64 8 (toBe (BitVec.ofNat 64 (8 * m.length))) m

/-- The effect of INIT.SHA1 (R153). -/
def State.initSha1 (s : State) : State := { s with sha1h := sha1Iv, bidx := 0 }

/-- The effect of PAD.SHA1 (R154). -/
def State.padSha1 (s : State) : State := s.storePadded (Variant.sha1.paddedLen s.mlen.toNat) (sha1Pad s.message)

/-- The effect of COMPRESS.SHA1 (R155). -/
def State.compressSha1 (s : State) : State := { s with sha1h := sha1Compress s.sha1h (s.block 64) }.nextBlock

/-- The effect of DIGEST.SHA1 (R156). -/
def State.digestSha1 (s : State) : State := s.storeDigest 20 (s.sha1h.toList.flatMap toBe)

/-- INIT.SHA1 (R153). -/
def execInitSha1 (s : State) : Result := .next s.initSha1

/-- PAD.SHA1 (R154). -/
def execPadSha1 (s : State) : Result := padCommand .sha1 State.padSha1 s

/-- COMPRESS.SHA1 (R155). -/
def execCompressSha1 (s : State) : Result := blockCommand .sha1 State.compressSha1 s

/-- DIGEST.SHA1 (R156). -/
def execDigestSha1 (s : State) : Result := .next s.digestSha1

end Sys2Proof.Machine
end

