-- ==== Sys2Proof/Machine/Sha2.lean ====
section
/-! DEFINITION. The SHA-2 engine, one rule set at the word widths 32 and 64 (R170 to R177), and the sixteen commands
of SHA-224, SHA-256, SHA-384 and SHA-512 (R178 to R193). -/

namespace Sys2Proof.Machine

/-- IV224 (R171). -/
def iv224 : Vector Word32 8 :=
  #v[0xc1059ed8, 0x367cd507, 0x3070dd17, 0xf70e5939,
     0xffc00b31, 0x68581511, 0x64f98fa7, 0xbefa4fa4]

/-- IV256 (R171). -/
def iv256 : Vector Word32 8 :=
  #v[0x6a09e667, 0xbb67ae85, 0x3c6ef372, 0xa54ff53a,
     0x510e527f, 0x9b05688c, 0x1f83d9ab, 0x5be0cd19]

/-- IV384 (R171). -/
def iv384 : Vector Word64 8 :=
  #v[0xcbbb9d5dc1059ed8, 0x629a292a367cd507, 0x9159015a3070dd17, 0x152fecd8f70e5939,
     0x67332667ffc00b31, 0x8eb44a8768581511, 0xdb0c2e0d64f98fa7, 0x47b5481dbefa4fa4]

/-- IV512 (R171). -/
def iv512 : Vector Word64 8 :=
  #v[0x6a09e667f3bcc908, 0xbb67ae8584caa73b, 0x3c6ef372fe94f82b, 0xa54ff53a5f1d36f1,
     0x510e527fade682d1, 0x9b05688c2b3e6c1f, 0x1f83d9abfb41bd6b, 0x5be0cd19137e2179]

/-- K512[0..79] (R174), in the rows of its table. -/
def k512 : List Word64 :=
  [[0x428a2f98d728ae22, 0x7137449123ef65cd],
   [0xb5c0fbcfec4d3b2f, 0xe9b5dba58189dbbc],
   [0x3956c25bf348b538, 0x59f111f1b605d019],
   [0x923f82a4af194f9b, 0xab1c5ed5da6d8118],
   [0xd807aa98a3030242, 0x12835b0145706fbe],
   [0x243185be4ee4b28c, 0x550c7dc3d5ffb4e2],
   [0x72be5d74f27b896f, 0x80deb1fe3b1696b1],
   [0x9bdc06a725c71235, 0xc19bf174cf692694],
   [0xe49b69c19ef14ad2, 0xefbe4786384f25e3],
   [0x0fc19dc68b8cd5b5, 0x240ca1cc77ac9c65],
   [0x2de92c6f592b0275, 0x4a7484aa6ea6e483],
   [0x5cb0a9dcbd41fbd4, 0x76f988da831153b5],
   [0x983e5152ee66dfab, 0xa831c66d2db43210],
   [0xb00327c898fb213f, 0xbf597fc7beef0ee4],
   [0xc6e00bf33da88fc2, 0xd5a79147930aa725],
   [0x06ca6351e003826f, 0x142929670a0e6e70],
   [0x27b70a8546d22ffc, 0x2e1b21385c26c926],
   [0x4d2c6dfc5ac42aed, 0x53380d139d95b3df],
   [0x650a73548baf63de, 0x766a0abb3c77b2a8],
   [0x81c2c92e47edaee6, 0x92722c851482353b],
   [0xa2bfe8a14cf10364, 0xa81a664bbc423001],
   [0xc24b8b70d0f89791, 0xc76c51a30654be30],
   [0xd192e819d6ef5218, 0xd69906245565a910],
   [0xf40e35855771202a, 0x106aa07032bbd1b8],
   [0x19a4c116b8d2d0c8, 0x1e376c085141ab53],
   [0x2748774cdf8eeb99, 0x34b0bcb5e19b48a8],
   [0x391c0cb3c5c95a63, 0x4ed8aa4ae3418acb],
   [0x5b9cca4f7763e373, 0x682e6ff3d6b2b8a3],
   [0x748f82ee5defb2fc, 0x78a5636f43172f60],
   [0x84c87814a1f0ab72, 0x8cc702081a6439ec],
   [0x90befffa23631e28, 0xa4506cebde82bde9],
   [0xbef9a3f7b2c67915, 0xc67178f2e372532b],
   [0xca273eceea26619c, 0xd186b8c721c0c207],
   [0xeada7dd6cde0eb1e, 0xf57d4f7fee6ed178],
   [0x06f067aa72176fba, 0x0a637dc5a2c898a6],
   [0x113f9804bef90dae, 0x1b710b35131c471b],
   [0x28db77f523047d84, 0x32caab7b40c72493],
   [0x3c9ebe0a15c9bebc, 0x431d67c49c100d4c],
   [0x4cc5d4becb3e42b6, 0x597f299cfc657e2a],
   [0x5fcb6fab3ad6faec, 0x6c44198c4a475817]].flatten

/-- K256[0..63] (R173): "The high 32 bits of K512[i] equal K256[i] for i = 0 .. 63" (R174). -/
def k256 : List Word32 := (k512.take 64).map fun k => k.extractLsb' 32 32

/-- What the two instantiations of the engine differ in (R170, R172): the round constants, one per round, and the
amounts of the six rotations or shifts. -/
structure Sha2Params (w : Nat) where
  /-- K; its length is the number of rounds NR. -/
  k : List (BitVec w)
  /-- Σ0: three right rotations. -/
  bigSigma0 : Nat × Nat × Nat
  /-- Σ1: three right rotations. -/
  bigSigma1 : Nat × Nat × Nat
  /-- σ0: two right rotations and a right shift. -/
  smallSigma0 : Nat × Nat × Nat
  /-- σ1: two right rotations and a right shift. -/
  smallSigma1 : Nat × Nat × Nat

/-- The instantiation at w = 32 (R170, R172). -/
def sha2At32 : Sha2Params 32 where
  k := k256
  bigSigma0 := (2, 13, 22)
  bigSigma1 := (6, 11, 25)
  smallSigma0 := (7, 18, 3)
  smallSigma1 := (17, 19, 10)

/-- The instantiation at w = 64 (R170, R172). -/
def sha2At64 : Sha2Params 64 where
  k := k512
  bigSigma0 := (28, 34, 39)
  bigSigma1 := (14, 18, 41)
  smallSigma0 := (1, 8, 7)
  smallSigma1 := (19, 61, 6)

/-- Three right rotations, as in Σ0 and Σ1 (R172). -/
def rotRotRot {w : Nat} (n : Nat × Nat × Nat) (x : BitVec w) : BitVec w :=
  rotr x n.1 ^^^ rotr x n.2.1 ^^^ rotr x n.2.2

/-- Two right rotations and a logical right shift, as in σ0 and σ1 (R172). -/
def rotRotShr {w : Nat} (n : Nat × Nat × Nat) (x : BitVec w) : BitVec w :=
  rotr x n.1 ^^^ rotr x n.2.1 ^^^ (x >>> n.2.2)

/-- Ch (R172). -/
def sha2Ch {w : Nat} (e f g : BitVec w) : BitVec w := (e &&& f) ^^^ (~~~e &&& g)

/-- Maj (R172). -/
def sha2Maj {w : Nat} (a b c : BitVec w) : BitVec w := (a &&& b) ^^^ (a &&& c) ^^^ (b &&& c)

/-- The next word of the schedule, `ws` being the words before it (R175). -/
def sha2NextWord {w : Nat} (P : Sha2Params w) (ws : List (BitVec w)) : BitVec w :=
  ws.getD (ws.length - 16) 0 + rotRotShr P.smallSigma0 (ws.getD (ws.length - 15) 0) + ws.getD (ws.length - 7) 0 +
    rotRotShr P.smallSigma1 (ws.getD (ws.length - 2) 0)

/-- `n` further words of the schedule. -/
def sha2Extend {w : Nat} (P : Sha2Params w) : Nat → List (BitVec w) → List (BitVec w)
  | 0, ws => ws
  | n + 1, ws => sha2Extend P n (ws ++ [sha2NextWord P ws])

/-- `sha2_schedule_w(B)` (R175). -/
def sha2Schedule {w : Nat} (P : Sha2Params w) (B : List Byte) : List (BitVec w) :=
  sha2Extend P (P.k.length - 16) (blockWords (beWord w) B)

/-- The working variables of SHA-2 (R176). -/
structure Sha2Vars (w : Nat) where
  a : BitVec w
  b : BitVec w
  c : BitVec w
  d : BitVec w
  e : BitVec w
  f : BitVec w
  g : BitVec w
  h : BitVec w
deriving DecidableEq, Repr

/-- T1 of round `i` (R176; h is its first term, 90_conflicts.md C2). -/
def sha2T1 {w : Nat} (P : Sha2Params w) (W : List (BitVec w)) (v : Sha2Vars w) (i : Nat) : BitVec w :=
  v.h + rotRotRot P.bigSigma1 v.e + sha2Ch v.e v.f v.g + P.k.getD i 0 + W.getD i 0

/-- T2 (R176). -/
def sha2T2 {w : Nat} (P : Sha2Params w) (v : Sha2Vars w) : BitVec w :=
  rotRotRot P.bigSigma0 v.a + sha2Maj v.a v.b v.c

/-- Round `i` (R176). -/
def sha2Round {w : Nat} (P : Sha2Params w) (W : List (BitVec w)) (v : Sha2Vars w) (i : Nat) : Sha2Vars w where
  a := sha2T1 P W v i + sha2T2 P v
  b := v.a
  c := v.b
  d := v.c
  e := v.d + sha2T1 P W v i
  f := v.e
  g := v.f
  h := v.g

/-- The working variables after the first `n` rounds on the schedule `W`. -/
def sha2Rounds {w : Nat} (P : Sha2Params w) (W : List (BitVec w)) (v : Sha2Vars w) (n : Nat) : Sha2Vars w :=
  (List.range n).foldl (sha2Round P W) v

/-- `sha2_compress_w(H, B)` (R176). -/
def sha2Compress {w : Nat} (P : Sha2Params w) (H : Vector (BitVec w) 8) (B : List Byte) : Vector (BitVec w) 8 :=
  let v := sha2Rounds P (sha2Schedule P B) ⟨H[0], H[1], H[2], H[3], H[4], H[5], H[6], H[7]⟩ P.k.length
  #v[H[0] + v.a, H[1] + v.b, H[2] + v.c, H[3] + v.d, H[4] + v.e, H[5] + v.f, H[6] + v.g, H[7] + v.h]

/-- `sha2_pad_32(m)` (R177 with bs = 64, lf = 8). -/
def sha2Pad32 (m : List Byte) : List Byte := mdPad 64 8 (toBe (BitVec.ofNat 64 (8 * m.length))) m

/-- `sha2_pad_64(m)` (R177 with bs = 128, lf = 16). -/
def sha2Pad64 (m : List Byte) : List Byte := mdPad 128 16 (toBe (BitVec.ofNat 128 (8 * m.length))) m

/-- The effect of INIT.SHA224 (R178). -/
def State.initSha224 (s : State) : State := { s with s32h := iv224, bidx := 0 }

/-- The effect of PAD.SHA224 (R182). -/
def State.padSha224 (s : State) : State :=
  s.storePadded (Variant.sha224.paddedLen s.mlen.toNat) (sha2Pad32 s.message)

/-- The effect of COMPRESS.SHA224 (R186). -/
def State.compressSha224 (s : State) : State :=
  { s with s32h := sha2Compress sha2At32 s.s32h (s.block 64) }.nextBlock

/-- The effect of DIGEST.SHA224: the first seven words (R190). -/
def State.digestSha224 (s : State) : State := s.storeDigest 28 ((s.s32h.toList.take 7).flatMap toBe)

/-- INIT.SHA224 (R178). -/
def execInitSha224 (s : State) : Result := .next s.initSha224

/-- PAD.SHA224 (R182). -/
def execPadSha224 (s : State) : Result := padCommand .sha224 State.padSha224 s

/-- COMPRESS.SHA224 (R186). -/
def execCompressSha224 (s : State) : Result := blockCommand .sha224 State.compressSha224 s

/-- DIGEST.SHA224 (R190). -/
def execDigestSha224 (s : State) : Result := .next s.digestSha224

/-- The effect of INIT.SHA256 (R179). -/
def State.initSha256 (s : State) : State := { s with s32h := iv256, bidx := 0 }

/-- The effect of PAD.SHA256 (R183). -/
def State.padSha256 (s : State) : State :=
  s.storePadded (Variant.sha256.paddedLen s.mlen.toNat) (sha2Pad32 s.message)

/-- The effect of COMPRESS.SHA256 (R187). -/
def State.compressSha256 (s : State) : State :=
  { s with s32h := sha2Compress sha2At32 s.s32h (s.block 64) }.nextBlock

/-- The effect of DIGEST.SHA256: all eight words (R191). -/
def State.digestSha256 (s : State) : State := s.storeDigest 32 (s.s32h.toList.flatMap toBe)

/-- INIT.SHA256 (R179). -/
def execInitSha256 (s : State) : Result := .next s.initSha256

/-- PAD.SHA256 (R183). -/
def execPadSha256 (s : State) : Result := padCommand .sha256 State.padSha256 s

/-- COMPRESS.SHA256 (R187). -/
def execCompressSha256 (s : State) : Result := blockCommand .sha256 State.compressSha256 s

/-- DIGEST.SHA256 (R191). -/
def execDigestSha256 (s : State) : Result := .next s.digestSha256

/-- The effect of INIT.SHA384 (R180). -/
def State.initSha384 (s : State) : State := { s with s64h := iv384, bidx := 0 }

/-- The effect of PAD.SHA384 (R184). -/
def State.padSha384 (s : State) : State :=
  s.storePadded (Variant.sha384.paddedLen s.mlen.toNat) (sha2Pad64 s.message)

/-- The effect of COMPRESS.SHA384 (R188). -/
def State.compressSha384 (s : State) : State :=
  { s with s64h := sha2Compress sha2At64 s.s64h (s.block 128) }.nextBlock

/-- The effect of DIGEST.SHA384: the first six words (R192). -/
def State.digestSha384 (s : State) : State := s.storeDigest 48 ((s.s64h.toList.take 6).flatMap toBe)

/-- INIT.SHA384 (R180). -/
def execInitSha384 (s : State) : Result := .next s.initSha384

/-- PAD.SHA384 (R184). -/
def execPadSha384 (s : State) : Result := padCommand .sha384 State.padSha384 s

/-- COMPRESS.SHA384 (R188). -/
def execCompressSha384 (s : State) : Result := blockCommand .sha384 State.compressSha384 s

/-- DIGEST.SHA384 (R192). -/
def execDigestSha384 (s : State) : Result := .next s.digestSha384

/-- The effect of INIT.SHA512 (R181). -/
def State.initSha512 (s : State) : State := { s with s64h := iv512, bidx := 0 }

/-- The effect of PAD.SHA512 (R185). -/
def State.padSha512 (s : State) : State :=
  s.storePadded (Variant.sha512.paddedLen s.mlen.toNat) (sha2Pad64 s.message)

/-- The effect of COMPRESS.SHA512 (R189). -/
def State.compressSha512 (s : State) : State :=
  { s with s64h := sha2Compress sha2At64 s.s64h (s.block 128) }.nextBlock

/-- The effect of DIGEST.SHA512: all eight words (R193). -/
def State.digestSha512 (s : State) : State := s.storeDigest 64 (s.s64h.toList.flatMap toBe)

/-- INIT.SHA512 (R181). -/
def execInitSha512 (s : State) : Result := .next s.initSha512

/-- PAD.SHA512 (R185). -/
def execPadSha512 (s : State) : Result := padCommand .sha512 State.padSha512 s

/-- COMPRESS.SHA512 (R189). -/
def execCompressSha512 (s : State) : Result := blockCommand .sha512 State.compressSha512 s

/-- DIGEST.SHA512 (R193). -/
def execDigestSha512 (s : State) : Result := .next s.digestSha512

end Sys2Proof.Machine
end

