-- ==== Sys2Proof/Machine/Keccak.lean ====
section
/-! DEFINITION. The permutation Keccak-f[1600] (R210 to R219). Lane (x, y) is register x + 5 * y (R31), indices taken
modulo 5. -/

namespace Sys2Proof.Machine

/-- The 25 lanes of KA (R210). -/
abbrev Lanes := Vector Word64 25

/-- A[x, y], the indices modulo 5 (R210). -/
def lane (A : Lanes) (x y : Nat) : Word64 := A[x % 5 + 5 * (y % 5)]'(by omega)

/-- The lanes given by a function of x and y. -/
def ofLanes (f : Nat → Nat → Word64) : Lanes := Vector.ofFn fun i => f (i.val % 5) (i.val / 5)

/-- RHO in register order (R211). -/
def rhoOffset : Vector Nat 25 :=
  #v[0, 1, 62, 28, 27,
     36, 44, 6, 55, 20,
     3, 10, 43, 25, 39,
     41, 45, 15, 21, 8,
     18, 2, 61, 56, 14]

/-- RC[0..23], in the columns of their table (R212). -/
def roundConst : List Word64 :=
  [[0x0000000000000001, 0x0000000000008082, 0x800000000000808a, 0x8000000080008000,
    0x000000000000808b, 0x0000000080000001, 0x8000000080008081, 0x8000000000008009],
   [0x000000000000008a, 0x0000000000000088, 0x0000000080008009, 0x000000008000000a,
    0x000000008000808b, 0x800000000000008b, 0x8000000000008089, 0x8000000000008003],
   [0x8000000000008002, 0x8000000000000080, 0x000000000000800a, 0x800000008000000a,
    0x8000000080008081, 0x8000000000008080, 0x0000000080000001, 0x8000000080008008]].flatten

/-- The column parity C[x] (R213). -/
def columnParity (A : Lanes) (x : Nat) : Word64 :=
  lane A x 0 ^^^ lane A x 1 ^^^ lane A x 2 ^^^ lane A x 3 ^^^ lane A x 4

/-- θ (R213). -/
def theta (A : Lanes) : Lanes :=
  let parity : Vector Word64 5 := Vector.ofFn fun x => columnParity A x.val
  let delta : Vector Word64 5 := Vector.ofFn fun x => parity[x + 4] ^^^ rotl parity[x + 1] 1
  ofLanes fun x y => lane A x y ^^^ delta[x % 5]

/-- ρ (R214). -/
def rho (A : Lanes) : Lanes := Vector.ofFn fun i => rotl A[i] rhoOffset[i]

/-- π (R215): the lane at (x, y) moves to (y, 2x + 3y), so the lane that comes to (x, y) is the one at
(x + 3y, x). -/
def pi (A : Lanes) : Lanes := ofLanes fun x y => lane A (x + 3 * y) x

/-- χ (R216). -/
def chi (B : Lanes) : Lanes := ofLanes fun x y => lane B x y ^^^ (~~~lane B (x + 1) y &&& lane B (x + 2) y)

/-- ι with the round constant `rc` (R217). -/
def iota (rc : Word64) (A : Lanes) : Lanes := A.set 0 (A[0] ^^^ rc)

/-- One round: θ, ρ, π, χ, ι (R218). -/
def keccakRound (A : Lanes) (rc : Word64) : Lanes := iota rc (chi (pi (rho (theta A))))

/-- `keccak_f(A)`: the 24 rounds (R218). -/
def keccakF (A : Lanes) : Lanes := roundConst.foldl keccakRound A

/-- KECCAKF (R219). -/
def execKeccakf (s : State) : Result := .next { s with ka := keccakF s.ka }

end Sys2Proof.Machine
end

