-- ==== Sys2Proof/Machine/Sponge.lean ====
section
/-! DEFINITION. The SHA-3 / SHAKE sponge controller: pad, absorb, squeeze (R220 to R223, R249 to R251) and the
twenty-four commands of the six sponge variants (R224 to R247). -/

namespace Sys2Proof.Machine

/-- `sponge_pad(r, s, m)` (R221). -/
def spongePad (r : Nat) (suffix : Byte) (m : List Byte) : List Byte :=
  let P := r * (m.length / r + 1)
  ((m ++ List.replicate (P - m.length) 0).modify m.length (· ^^^ suffix)).modify (P - 1) (· ||| 0x80)

/-- The state with a block xored into its first r/8 lanes, before the permutation (R222). -/
def xorBlock (r : Nat) (A : Lanes) (B : List Byte) : Lanes :=
  Vector.ofFn fun j => if j.val < r / 8 then A[j] ^^^ leWord 64 (slice B (8 * j.val) 8) else A[j]

/-- `sponge_absorb(r, A, B)` (R222). -/
def spongeAbsorb (r : Nat) (A : Lanes) (B : List Byte) : Lanes := keccakF (xorBlock r A B)

/-- SB(A), the 200 bytes of the state (R31). -/
def stateBytes (A : Lanes) : List Byte := A.toList.flatMap toLe

/-- The loop of `sponge_squeeze`: expose up to `r` bytes, permute, and go on for what is left of `L` (R223). The
first argument bounds the number of permutations. -/
def squeezeLoop (r : Nat) : Nat → Lanes → Nat → List Byte × Lanes
  | 0, A, L => ((stateBytes A).take (min r L), A)
  | n + 1, A, L =>
    if L ≤ r then ((stateBytes A).take L, A)
    else
      let rest := squeezeLoop r n (keccakF A) (L - r)
      ((stateBytes A).take r ++ rest.1, rest.2)

/-- `sponge_squeeze(r, A, L)` (R223). With r > 0 there are fewer than L permutations. -/
def spongeSqueeze (r : Nat) (A : Lanes) (L : Nat) : List Byte × Lanes := squeezeLoop r L A L

/-- The effect of a sponge INIT (R224). -/
def State.initSponge (s : State) : State := { s with ka := Vector.replicate 25 0, bidx := 0 }

/-- The effect of `pad_command(r, s)` after its tests (R249). -/
def State.padSponge (v : Variant) (suffix : Byte) (s : State) : State :=
  s.storePadded (v.paddedLen s.mlen.toNat) (spongePad v.blockSize suffix s.message)

/-- The effect of `absorb_command(r)` after its test (R250). -/
def State.absorb (r : Nat) (s : State) : State := { s with ka := spongeAbsorb r s.ka (s.block r) }.nextBlock

/-- The effect of `squeeze_command(r, L)` after its test (R251). -/
def State.squeeze (r L : Nat) (s : State) : State :=
  { s.storeDigest L (spongeSqueeze r s.ka L).1 with ka := (spongeSqueeze r s.ka L).2 }

/-- `squeeze_command(r, L)` (R251). -/
def squeezeCommand (L : Nat) (squeeze : State → State) (s : State) : Result :=
  if s.cfg.doutCap < L then raise .cap s else .next (squeeze s)

/-- The effect of INIT.SHA3_224 (R224). -/
def State.initSha3_224 (s : State) : State := s.initSponge

/-- The effect of PAD.SHA3_224 (R230). -/
def State.padSha3_224 (s : State) : State := s.padSponge .sha3_224 0x06

/-- The effect of ABSORB.SHA3_224 (R236). -/
def State.absorbSha3_224 (s : State) : State := s.absorb 144

/-- The effect of SQUEEZE.SHA3_224 (R242). -/
def State.squeezeSha3_224 (s : State) : State := s.squeeze 144 28

/-- INIT.SHA3_224 (R224). -/
def execInitSha3_224 (s : State) : Result := .next s.initSha3_224

/-- PAD.SHA3_224 (R230). -/
def execPadSha3_224 (s : State) : Result := padCommand .sha3_224 State.padSha3_224 s

/-- ABSORB.SHA3_224 (R236). -/
def execAbsorbSha3_224 (s : State) : Result := blockCommand .sha3_224 State.absorbSha3_224 s

/-- SQUEEZE.SHA3_224 (R242). -/
def execSqueezeSha3_224 (s : State) : Result := squeezeCommand 28 State.squeezeSha3_224 s

/-- The effect of INIT.SHA3_256 (R225). -/
def State.initSha3_256 (s : State) : State := s.initSponge

/-- The effect of PAD.SHA3_256 (R231). -/
def State.padSha3_256 (s : State) : State := s.padSponge .sha3_256 0x06

/-- The effect of ABSORB.SHA3_256 (R237). -/
def State.absorbSha3_256 (s : State) : State := s.absorb 136

/-- The effect of SQUEEZE.SHA3_256 (R243). -/
def State.squeezeSha3_256 (s : State) : State := s.squeeze 136 32

/-- INIT.SHA3_256 (R225). -/
def execInitSha3_256 (s : State) : Result := .next s.initSha3_256

/-- PAD.SHA3_256 (R231). -/
def execPadSha3_256 (s : State) : Result := padCommand .sha3_256 State.padSha3_256 s

/-- ABSORB.SHA3_256 (R237). -/
def execAbsorbSha3_256 (s : State) : Result := blockCommand .sha3_256 State.absorbSha3_256 s

/-- SQUEEZE.SHA3_256 (R243). -/
def execSqueezeSha3_256 (s : State) : Result := squeezeCommand 32 State.squeezeSha3_256 s

/-- The effect of INIT.SHA3_384 (R226). -/
def State.initSha3_384 (s : State) : State := s.initSponge

/-- The effect of PAD.SHA3_384 (R232). -/
def State.padSha3_384 (s : State) : State := s.padSponge .sha3_384 0x06

/-- The effect of ABSORB.SHA3_384 (R238). -/
def State.absorbSha3_384 (s : State) : State := s.absorb 104

/-- The effect of SQUEEZE.SHA3_384 (R244). -/
def State.squeezeSha3_384 (s : State) : State := s.squeeze 104 48

/-- INIT.SHA3_384 (R226). -/
def execInitSha3_384 (s : State) : Result := .next s.initSha3_384

/-- PAD.SHA3_384 (R232). -/
def execPadSha3_384 (s : State) : Result := padCommand .sha3_384 State.padSha3_384 s

/-- ABSORB.SHA3_384 (R238). -/
def execAbsorbSha3_384 (s : State) : Result := blockCommand .sha3_384 State.absorbSha3_384 s

/-- SQUEEZE.SHA3_384 (R244). -/
def execSqueezeSha3_384 (s : State) : Result := squeezeCommand 48 State.squeezeSha3_384 s

/-- The effect of INIT.SHA3_512 (R227). -/
def State.initSha3_512 (s : State) : State := s.initSponge

/-- The effect of PAD.SHA3_512 (R233). -/
def State.padSha3_512 (s : State) : State := s.padSponge .sha3_512 0x06

/-- The effect of ABSORB.SHA3_512 (R239). -/
def State.absorbSha3_512 (s : State) : State := s.absorb 72

/-- The effect of SQUEEZE.SHA3_512 (R245). -/
def State.squeezeSha3_512 (s : State) : State := s.squeeze 72 64

/-- INIT.SHA3_512 (R227). -/
def execInitSha3_512 (s : State) : Result := .next s.initSha3_512

/-- PAD.SHA3_512 (R233). -/
def execPadSha3_512 (s : State) : Result := padCommand .sha3_512 State.padSha3_512 s

/-- ABSORB.SHA3_512 (R239). -/
def execAbsorbSha3_512 (s : State) : Result := blockCommand .sha3_512 State.absorbSha3_512 s

/-- SQUEEZE.SHA3_512 (R245). -/
def execSqueezeSha3_512 (s : State) : Result := squeezeCommand 64 State.squeezeSha3_512 s

/-- The effect of INIT.SHAKE128 (R228). -/
def State.initShake128 (s : State) : State := s.initSponge

/-- The effect of PAD.SHAKE128 (R234). -/
def State.padShake128 (s : State) : State := s.padSponge .shake128 0x1f

/-- The effect of ABSORB.SHAKE128 (R240). -/
def State.absorbShake128 (s : State) : State := s.absorb 168

/-- The effect of SQUEEZE.SHAKE128 (R246). -/
def State.squeezeShake128 (s : State) : State := s.squeeze 168 s.olen.toNat

/-- INIT.SHAKE128 (R228). -/
def execInitShake128 (s : State) : Result := .next s.initShake128

/-- PAD.SHAKE128 (R234). -/
def execPadShake128 (s : State) : Result := padCommand .shake128 State.padShake128 s

/-- ABSORB.SHAKE128 (R240). -/
def execAbsorbShake128 (s : State) : Result := blockCommand .shake128 State.absorbShake128 s

/-- SQUEEZE.SHAKE128 (R246). -/
def execSqueezeShake128 (s : State) : Result := squeezeCommand s.olen.toNat State.squeezeShake128 s

/-- The effect of INIT.SHAKE256 (R229). -/
def State.initShake256 (s : State) : State := s.initSponge

/-- The effect of PAD.SHAKE256 (R235). -/
def State.padShake256 (s : State) : State := s.padSponge .shake256 0x1f

/-- The effect of ABSORB.SHAKE256 (R241). -/
def State.absorbShake256 (s : State) : State := s.absorb 136

/-- The effect of SQUEEZE.SHAKE256 (R247). -/
def State.squeezeShake256 (s : State) : State := s.squeeze 136 s.olen.toNat

/-- INIT.SHAKE256 (R229). -/
def execInitShake256 (s : State) : Result := .next s.initShake256

/-- PAD.SHAKE256 (R235). -/
def execPadShake256 (s : State) : Result := padCommand .shake256 State.padShake256 s

/-- ABSORB.SHAKE256 (R241). -/
def execAbsorbShake256 (s : State) : Result := blockCommand .shake256 State.absorbShake256 s

/-- SQUEEZE.SHAKE256 (R247). -/
def execSqueezeShake256 (s : State) : Result := squeezeCommand s.olen.toNat State.squeezeShake256 s

end Sys2Proof.Machine
end

