-- ==== Sys2Proof/Machine/Hash.lean ====
section
/-! DEFINITION. The dispatch of a variant to its engine (R260, R261), the twelve HASH commands (R262 to R274) and
HEX (R275). -/

namespace Sys2Proof.Machine

/-- The effect of INIT.v. -/
def State.initOf (v : Variant) (s : State) : State :=
  match v with
  | .md5 => s.initMd5
  | .sha1 => s.initSha1
  | .sha224 => s.initSha224
  | .sha256 => s.initSha256
  | .sha384 => s.initSha384
  | .sha512 => s.initSha512
  | .sha3_224 => s.initSha3_224
  | .sha3_256 => s.initSha3_256
  | .sha3_384 => s.initSha3_384
  | .sha3_512 => s.initSha3_512
  | .shake128 => s.initShake128
  | .shake256 => s.initShake256

/-- The effect of PAD.v after its tests. -/
def State.padOf (v : Variant) (s : State) : State :=
  match v with
  | .md5 => s.padMd5
  | .sha1 => s.padSha1
  | .sha224 => s.padSha224
  | .sha256 => s.padSha256
  | .sha384 => s.padSha384
  | .sha512 => s.padSha512
  | .sha3_224 => s.padSha3_224
  | .sha3_256 => s.padSha3_256
  | .sha3_384 => s.padSha3_384
  | .sha3_512 => s.padSha3_512
  | .shake128 => s.padShake128
  | .shake256 => s.padShake256

/-- The effect of COMPRESS.v or ABSORB.v after its test. -/
def State.blockOf (v : Variant) (s : State) : State :=
  match v with
  | .md5 => s.compressMd5
  | .sha1 => s.compressSha1
  | .sha224 => s.compressSha224
  | .sha256 => s.compressSha256
  | .sha384 => s.compressSha384
  | .sha512 => s.compressSha512
  | .sha3_224 => s.absorbSha3_224
  | .sha3_256 => s.absorbSha3_256
  | .sha3_384 => s.absorbSha3_384
  | .sha3_512 => s.absorbSha3_512
  | .shake128 => s.absorbShake128
  | .shake256 => s.absorbShake256

/-- The effect of DIGEST.v or SQUEEZE.v after its test. -/
def State.outOf (v : Variant) (s : State) : State :=
  match v with
  | .md5 => s.digestMd5
  | .sha1 => s.digestSha1
  | .sha224 => s.digestSha224
  | .sha256 => s.digestSha256
  | .sha384 => s.digestSha384
  | .sha512 => s.digestSha512
  | .sha3_224 => s.squeezeSha3_224
  | .sha3_256 => s.squeezeSha3_256
  | .sha3_384 => s.squeezeSha3_384
  | .sha3_512 => s.squeezeSha3_512
  | .shake128 => s.squeezeShake128
  | .shake256 => s.squeezeShake256

/-- The digest length in bytes of a variant, OLEN for SHAKE (R260, column out). -/
def State.outLen (v : Variant) (s : State) : Nat :=
  match v with
  | .md5 => 16
  | .sha1 => 20
  | .sha224 => 28
  | .sha256 => 32
  | .sha384 => 48
  | .sha512 => 64
  | .sha3_224 => 28
  | .sha3_256 => 32
  | .sha3_384 => 48
  | .sha3_512 => 64
  | .shake128 => s.olen.toNat
  | .shake256 => s.olen.toNat

/-- The number of blocks HASH.v runs, P / bs (R262). -/
def State.blocksOf (v : Variant) (s : State) : Nat := v.paddedLen s.mlen.toNat / v.blockSize

/-- The four effects of HASH.v in order, the block effect P / bs times; no test is left to fail (R262). -/
def State.hashOf (v : Variant) (s : State) : State :=
  ((State.blockOf v)^[s.blocksOf v] ((s.initOf v).padOf v)).outOf v

/-- What every HASH.v does (R262): the three tests, all before any write, then the effects. -/
def hashCommand (v : Variant) (s : State) : Result :=
  if s.cfg.msgCap < s.mlen.toNat then raise .framing s
  else if s.cfg.pbufCap < v.paddedLen s.mlen.toNat then raise .cap s
  else if s.cfg.doutCap < s.outLen v then raise .cap s
  else .next (s.hashOf v)

/-- HASH.MD5 (R263). -/
def execHashMd5 (s : State) : Result := hashCommand .md5 s

/-- HASH.SHA1 (R264). -/
def execHashSha1 (s : State) : Result := hashCommand .sha1 s

/-- HASH.SHA224 (R265). -/
def execHashSha224 (s : State) : Result := hashCommand .sha224 s

/-- HASH.SHA256 (R266). -/
def execHashSha256 (s : State) : Result := hashCommand .sha256 s

/-- HASH.SHA384 (R267). -/
def execHashSha384 (s : State) : Result := hashCommand .sha384 s

/-- HASH.SHA512 (R268). -/
def execHashSha512 (s : State) : Result := hashCommand .sha512 s

/-- HASH.SHA3_224 (R269). -/
def execHashSha3_224 (s : State) : Result := hashCommand .sha3_224 s

/-- HASH.SHA3_256 (R270). -/
def execHashSha3_256 (s : State) : Result := hashCommand .sha3_256 s

/-- HASH.SHA3_384 (R271). -/
def execHashSha3_384 (s : State) : Result := hashCommand .sha3_384 s

/-- HASH.SHA3_512 (R272). -/
def execHashSha3_512 (s : State) : Result := hashCommand .sha3_512 s

/-- HASH.SHAKE128 (R273). -/
def execHashShake128 (s : State) : Result := hashCommand .shake128 s

/-- HASH.SHAKE256 (R274). -/
def execHashShake256 (s : State) : Result := hashCommand .shake256 s

/-- The ASCII code of a hexadecimal digit, lowercase (R275). -/
def hexChar (d : Nat) : Byte := if d ≤ 9 then BitVec.ofNat 8 (0x30 + d) else BitVec.ofNat 8 (0x61 + (d - 10))

/-- Two characters per byte, the high four bits first (R53, R275). -/
def hexText (bs : List Byte) : List Byte := bs.flatMap fun b => [hexChar (b.toNat / 16), hexChar (b.toNat % 16)]

/-- The effect of HEX (R275). -/
def State.hexOut (s : State) : State :=
  { s.writeBytes .xout 0 (hexText (s.readBytes .dout 0 s.dlen.toNat)) with
    xlen := BitVec.ofNat 64 (2 * s.dlen.toNat) }

/-- HEX (R275). "DLEN <= DOUT_CAP always holds" (R275); in a state in which it does not, which no run reaches, DOUT
has no byte to read (R32) and the model stops (log 6). -/
def execHex (s : State) : Result :=
  if s.cfg.doutCap < s.dlen.toNat then .fault .addressBeyondCapacity else .next s.hexOut

end Sys2Proof.Machine
end

