-- ==== Sys2Proof/Machine/Dispatch.lean ====
section
/-! DEFINITION. The one arm of each command: a direct call of its meaning. -/

namespace Sys2Proof.Machine

/-- The effect of a command whose word is legal, with FAULT 0 (R311). -/
def exec (i : Instr) (s : State) : Host.Outcome State Fault Refusal :=
  match i with
  | .rotl8 => Sys2Proof.Machine.execRotl8 s
  | .rotl16 => Sys2Proof.Machine.execRotl16 s
  | .rotl32 => Sys2Proof.Machine.execRotl32 s
  | .rotl64 => Sys2Proof.Machine.execRotl64 s
  | .rotr8 => Sys2Proof.Machine.execRotr8 s
  | .rotr16 => Sys2Proof.Machine.execRotr16 s
  | .rotr32 => Sys2Proof.Machine.execRotr32 s
  | .rotr64 => Sys2Proof.Machine.execRotr64 s
  | .ldw32be => Sys2Proof.Machine.execLdw32be s
  | .ldw64be => Sys2Proof.Machine.execLdw64be s
  | .ldw32le => Sys2Proof.Machine.execLdw32le s
  | .ldw64le => Sys2Proof.Machine.execLdw64le s
  | .stw32be => Sys2Proof.Machine.execStw32be s
  | .stw64be => Sys2Proof.Machine.execStw64be s
  | .stw32le => Sys2Proof.Machine.execStw32le s
  | .stw64le => Sys2Proof.Machine.execStw64le s
  | .initMd5 => Sys2Proof.Machine.execInitMd5 s
  | .initSha1 => Sys2Proof.Machine.execInitSha1 s
  | .initSha224 => Sys2Proof.Machine.execInitSha224 s
  | .initSha256 => Sys2Proof.Machine.execInitSha256 s
  | .initSha384 => Sys2Proof.Machine.execInitSha384 s
  | .initSha512 => Sys2Proof.Machine.execInitSha512 s
  | .initSha3_224 => Sys2Proof.Machine.execInitSha3_224 s
  | .initSha3_256 => Sys2Proof.Machine.execInitSha3_256 s
  | .initSha3_384 => Sys2Proof.Machine.execInitSha3_384 s
  | .initSha3_512 => Sys2Proof.Machine.execInitSha3_512 s
  | .initShake128 => Sys2Proof.Machine.execInitShake128 s
  | .initShake256 => Sys2Proof.Machine.execInitShake256 s
  | .padMd5 => Sys2Proof.Machine.execPadMd5 s
  | .padSha1 => Sys2Proof.Machine.execPadSha1 s
  | .padSha224 => Sys2Proof.Machine.execPadSha224 s
  | .padSha256 => Sys2Proof.Machine.execPadSha256 s
  | .padSha384 => Sys2Proof.Machine.execPadSha384 s
  | .padSha512 => Sys2Proof.Machine.execPadSha512 s
  | .padSha3_224 => Sys2Proof.Machine.execPadSha3_224 s
  | .padSha3_256 => Sys2Proof.Machine.execPadSha3_256 s
  | .padSha3_384 => Sys2Proof.Machine.execPadSha3_384 s
  | .padSha3_512 => Sys2Proof.Machine.execPadSha3_512 s
  | .padShake128 => Sys2Proof.Machine.execPadShake128 s
  | .padShake256 => Sys2Proof.Machine.execPadShake256 s
  | .compressMd5 => Sys2Proof.Machine.execCompressMd5 s
  | .compressSha1 => Sys2Proof.Machine.execCompressSha1 s
  | .compressSha224 => Sys2Proof.Machine.execCompressSha224 s
  | .compressSha256 => Sys2Proof.Machine.execCompressSha256 s
  | .compressSha384 => Sys2Proof.Machine.execCompressSha384 s
  | .compressSha512 => Sys2Proof.Machine.execCompressSha512 s
  | .absorbSha3_224 => Sys2Proof.Machine.execAbsorbSha3_224 s
  | .absorbSha3_256 => Sys2Proof.Machine.execAbsorbSha3_256 s
  | .absorbSha3_384 => Sys2Proof.Machine.execAbsorbSha3_384 s
  | .absorbSha3_512 => Sys2Proof.Machine.execAbsorbSha3_512 s
  | .absorbShake128 => Sys2Proof.Machine.execAbsorbShake128 s
  | .absorbShake256 => Sys2Proof.Machine.execAbsorbShake256 s
  | .digestMd5 => Sys2Proof.Machine.execDigestMd5 s
  | .digestSha1 => Sys2Proof.Machine.execDigestSha1 s
  | .digestSha224 => Sys2Proof.Machine.execDigestSha224 s
  | .digestSha256 => Sys2Proof.Machine.execDigestSha256 s
  | .digestSha384 => Sys2Proof.Machine.execDigestSha384 s
  | .digestSha512 => Sys2Proof.Machine.execDigestSha512 s
  | .squeezeSha3_224 => Sys2Proof.Machine.execSqueezeSha3_224 s
  | .squeezeSha3_256 => Sys2Proof.Machine.execSqueezeSha3_256 s
  | .squeezeSha3_384 => Sys2Proof.Machine.execSqueezeSha3_384 s
  | .squeezeSha3_512 => Sys2Proof.Machine.execSqueezeSha3_512 s
  | .squeezeShake128 => Sys2Proof.Machine.execSqueezeShake128 s
  | .squeezeShake256 => Sys2Proof.Machine.execSqueezeShake256 s
  | .hashMd5 => Sys2Proof.Machine.execHashMd5 s
  | .hashSha1 => Sys2Proof.Machine.execHashSha1 s
  | .hashSha224 => Sys2Proof.Machine.execHashSha224 s
  | .hashSha256 => Sys2Proof.Machine.execHashSha256 s
  | .hashSha384 => Sys2Proof.Machine.execHashSha384 s
  | .hashSha512 => Sys2Proof.Machine.execHashSha512 s
  | .hashSha3_224 => Sys2Proof.Machine.execHashSha3_224 s
  | .hashSha3_256 => Sys2Proof.Machine.execHashSha3_256 s
  | .hashSha3_384 => Sys2Proof.Machine.execHashSha3_384 s
  | .hashSha3_512 => Sys2Proof.Machine.execHashSha3_512 s
  | .hashShake128 => Sys2Proof.Machine.execHashShake128 s
  | .hashShake256 => Sys2Proof.Machine.execHashShake256 s
  | .hex => Sys2Proof.Machine.execHex s
  | .keccakf => Sys2Proof.Machine.execKeccakf s

end Sys2Proof.Machine
end

