-- ==== Sys2Proof/Machine/HostPort.lean ====
section
/-! DEFINITION. The host's side of CORE (R310, R311): the register numbers (R24, R25, R27 to R31), the five
primitives, issuing a command word, and the pseudo-instructions of R79 as lists of primitives. -/

namespace Sys2Proof

/-- The register a number names; none for an unassigned number (R24, R25, R27 to R31). -/
def Reg.ofNumber (k : Nat) : Option Reg :=
  if k = 0x00 then some .cmd
  else if k = 0x01 then some .status
  else if k = 0x02 then some .mlen
  else if k = 0x03 then some .plen
  else if k = 0x04 then some .olen
  else if k = 0x05 then some .dlen
  else if k = 0x06 then some .xlen
  else if k = 0x07 then some .bidx
  else if k = 0x08 then some .opa
  else if k = 0x09 then some .opn
  else if k = 0x0a then some .res
  else if h : 0x10 ≤ k ∧ k < 0x18 then some (.opb ⟨k - 0x10, by omega⟩)
  else if h : 0x20 ≤ k ∧ k < 0x24 then some (.md5h ⟨k - 0x20, by omega⟩)
  else if h : 0x28 ≤ k ∧ k < 0x2d then some (.sha1h ⟨k - 0x28, by omega⟩)
  else if h : 0x30 ≤ k ∧ k < 0x38 then some (.s32h ⟨k - 0x30, by omega⟩)
  else if h : 0x38 ≤ k ∧ k < 0x40 then some (.s64h ⟨k - 0x38, by omega⟩)
  else if h : 0x40 ≤ k ∧ k < 0x59 then some (.ka ⟨k - 0x40, by omega⟩)
  else none

/-- What the host may do to each register (R24, R25, R26). -/
def Reg.access : Reg → Access
  | .cmd => .wo
  | .status => .ro
  | .mlen => .rw
  | .plen => .rw
  | .olen => .rw
  | .dlen => .ro
  | .xlen => .ro
  | .bidx => .rw
  | .opa => .rw
  | .opn => .rw
  | .res => .ro
  | .opb _ => .rw
  | .md5h _ => .rw
  | .sha1h _ => .rw
  | .s32h _ => .rw
  | .s64h _ => .rw
  | .ka _ => .rw

/-- What the host may do to each memory (R33 to R35). -/
def Space.access : Space → Access
  | .msg => .rw
  | .pbuf => .rw
  | .dout => .ro
  | .xout => .ro

end Sys2Proof

namespace Sys2Proof.Machine

/-- The value of a register, zero-extended to 64 bits (R310). CMD reads 0 (R311). -/
def State.getReg (s : State) : Reg → Word64
  | .cmd => 0
  | .status => s.status.setWidth 64
  | .mlen => s.mlen
  | .plen => s.plen
  | .olen => s.olen
  | .dlen => s.dlen
  | .xlen => s.xlen
  | .bidx => s.bidx
  | .opa => s.opa
  | .opn => s.opn
  | .res => s.res
  | .opb i => s.opb[i].setWidth 64
  | .md5h i => s.md5h[i].setWidth 64
  | .sha1h i => s.sha1h[i].setWidth 64
  | .s32h i => s.s32h[i].setWidth 64
  | .s64h i => s.s64h[i]
  | .ka i => s.ka[i]

/-- A register takes a 64-bit value cut to its width (R24). CMD holds nothing (R311). -/
def State.setReg (s : State) (r : Reg) (v : Word64) : State :=
  match r with
  | .cmd => s
  | .status => { s with status := v.setWidth 32 }
  | .mlen => { s with mlen := v }
  | .plen => { s with plen := v }
  | .olen => { s with olen := v }
  | .dlen => { s with dlen := v }
  | .xlen => { s with xlen := v }
  | .bidx => { s with bidx := v }
  | .opa => { s with opa := v }
  | .opn => { s with opn := v }
  | .res => { s with res := v }
  | .opb i => { s with opb := s.opb.set i (v.setWidth 8) }
  | .md5h i => { s with md5h := s.md5h.set i (v.setWidth 32) }
  | .sha1h i => { s with sha1h := s.sha1h.set i (v.setWidth 32) }
  | .s32h i => { s with s32h := s.s32h.set i (v.setWidth 32) }
  | .s64h i => { s with s64h := s.s64h.set i v }
  | .ka i => { s with ka := s.ka.set i v }

/-- What `RegRead(k)` returns: 0 for a write-only register and for an unassigned number (R24, R310). -/
def State.hostRegRead (s : State) (k : Nat) : Word64 :=
  match Reg.ofNumber k with
  | none => 0
  | some r => if r.access = .wo then 0 else s.getReg r

/-- What `MemRead(SPACE, a, 1)` returns: 0 at or above the capacity (R32, R310). -/
def State.hostMemRead (s : State) (sp : Space) (a : Nat) : Byte :=
  if a < s.cfg.capacity sp then s.peek sp a else 0

/-- Executing a command word (R311): nothing while FAULT is 1 (R304); F_ILLCMD for a word that is no command
(R77); else the instruction's rule. -/
def issueCommand (cw : Word32) (s : State) : Result :=
  if s.faulted then .next s
  else
    match decode cw with
    | .illegal _ => raise .illcmd s
    | .instr i => exec i s

/-- `RegWrite(k, v)` (R310). -/
def hostRegWrite (k : Nat) (v : Word64) (s : State) : Result :=
  match Reg.ofNumber k with
  | none => .next s
  | some .cmd => issueCommand (v.setWidth 32) s
  | some r => if r.access = .rw then .next (s.setReg r v) else .next s

/-- `MemWrite(SPACE, a, 1, [b])` (R310). -/
def hostMemWrite (sp : Space) (a : Nat) (b : Byte) (s : State) : State :=
  if sp.access = .rw ∧ a < s.cfg.capacity sp then s.writeBytes sp a [b] else s

/-- One primitive of the host (R310). What a read returns is recorded in `reads`. -/
def hostStep (op : HostOp) (s : State) : Result :=
  match op with
  | .regRead k => .next { s with reads := .reg k (s.hostRegRead k) :: s.reads }
  | .regWrite k v => hostRegWrite k v s
  | .memRead sp a => .next { s with reads := .mem sp a (s.hostMemRead sp a) :: s.reads }
  | .memWrite sp a b => .next (hostMemWrite sp a b s)
  | .reset => .next s.hostReset

/-- `CMD mnemonic`: the host write of a command's word to register CMD (R78). -/
def command (i : Instr) : HostOp := .regWrite 0x00 ((encode i).setWidth 64)

/-- `WB SPACE[a..], b0 b1 ...`: consecutive byte writes (R78). -/
def writeRun (sp : Space) : Nat → List Byte → List HostOp
  | _, [] => []
  | a, b :: bs => .memWrite sp a b :: writeRun sp (a + 1) bs

/-- The pseudo-instruction `LOADMSG s` (R79). -/
def loadMsg (bs : List Byte) : List HostOp :=
  writeRun .msg 0 bs ++ [.regWrite 0x02 (BitVec.ofNat 64 bs.length)]

/-- The pseudo-instruction `HASHHEX.v` (R79). -/
def hashHex (v : Variant) : List HostOp := [command v.hash, command .hex]

/-- The step sequence of a hash of variant `v` over `blocks` blocks (R335). -/
def stepSequence (v : Variant) (blocks : Nat) : List HostOp :=
  [command v.init, command v.pad] ++ List.replicate blocks (command v.blockCmd) ++ [command v.out]

end Sys2Proof.Machine
end

