-- ==== Sys2Proof/Machine/Step.lean ====
section
/-! DEFINITION. One step of the machine: the next host primitive (R310, R312; log 4). CORE has no program counter and
fetches no instructions; each command word comes from the host through register CMD (R23, R63). -/

namespace Sys2Proof.Machine

/-- Take the next primitive of the host and perform it; with none left CORE waits, unchanged (R331). -/
def step (s : State) : Result :=
  match s.pending with
  | [] => .next s
  | op :: rest => hostStep op { s with pending := rest }

/-- `s` with the host about to write the word `w` of `nbits` bits to register CMD, so that the next step runs it. -/
def State.withFetchWord (s : State) (nbits w : Nat) : State :=
  { s with pending := .regWrite 0x00 (BitVec.ofNat 64 (w % 2 ^ nbits)) :: s.pending }

end Sys2Proof.Machine
end

