-- ==== Sys2Proof/Safety.lean ====
section
/-! DEFINITION. What counts as a well-formed state and as a good run, in the terms the claims use. -/

namespace Sys2Proof.Safety

open Sys2Proof.Machine

/-- STATUS holds one of the four values R302 gives: no fault, or a fault with one of the three codes. -/
abbrev statusLegal (st : Word32) : Prop :=
  st = 0 ∨ st = 0x101 ∨ st = 0x201 ∨ st = 0x301

/-- A memory in canonical form with no byte at or above its capacity (R32). -/
abbrev memoryLegal (s : State) (sp : Space) : Prop :=
  (s.mem sp).wf ∧ ∀ x ∈ s.mem sp, x.1 < s.cfg.capacity sp

/-- Every byte of `sp` below `n` has been written since reset (R333). -/
def written (s : State) (sp : Space) (n : Nat) : Prop :=
  ∀ a, a < n → ((s.mem sp).get? a).isSome

/-- The invariant of CORE. The configuration is legal (R7); STATUS holds a value of R302; the memories are in
canonical form and hold nothing outside their capacities (R32); DLEN and XLEN describe bytes that exist and that
have been written since reset (R275, R333). -/
structure Inv (s : State) : Prop where
  cfg : s.cfg.legal
  status : statusLegal s.status
  memory : ∀ sp, memoryLegal s sp
  dlen : s.dlen.toNat ≤ s.cfg.doutCap
  xlen : s.xlen.toNat ≤ 2 * s.cfg.doutCap
  digest : written s .dout s.dlen.toNat
  text : written s .xout s.xlen.toNat

/-- A run is completed when no fault is recorded at its end (R312). -/
abbrev completed (s : State) : Prop := s.faulted = false

/-- A run has failed when a fault is recorded at its end (R312). -/
abbrev failed (s : State) : Prop := s.faulted = true

end Sys2Proof.Safety
end

