-- ==== Sys2Proof/Certificates/Slice0/Obligations.lean ====
section
/-! DEFINITION. The statements for the provers. First the words they are written in, each taken from a table or a
formula of spec/; then the statements. -/

namespace Sys2Proof.Claims

open Sys2Proof.Machine

/-! ## Words of the statements -/

/-- `t` is `s` but for the registers `regs` and the memory bytes `bytes`. -/
def Frame (s t : State) (regs : Reg → Prop) (bytes : Space → Nat → Prop) : Prop :=
  (∀ r, ¬regs r → t.getReg r = s.getReg r) ∧ (∀ sp a, ¬bytes sp a → t.peek sp a = s.peek sp a) ∧
    t.cfg = s.cfg ∧ t.epoch = s.epoch ∧ t.pending = s.pending ∧ t.reads = s.reads

/-- No register. -/
def noReg (_ : Reg) : Prop := False

/-- No byte of any memory. -/
def noByte (_ : Space) (_ : Nat) : Prop := False

/-- The bytes of `sp` below `n`. -/
def bytesBelow (sp : Space) (n : Nat) (sp' : Space) (a : Nat) : Prop := sp' = sp ∧ a < n

/-- The twelve variants (R3). -/
def allVariants : List Variant :=
  [.md5, .sha1, .sha224, .sha256, .sha384, .sha512, .sha3_224, .sha3_256, .sha3_384, .sha3_512, .shake128, .shake256]

/-- The registers of the state file of a variant (R260). -/
def stateFile (v : Variant) (r : Reg) : Prop :=
  match v with
  | .md5 => ∃ j, r = .md5h j
  | .sha1 => ∃ j, r = .sha1h j
  | .sha224 => ∃ j, r = .s32h j
  | .sha256 => ∃ j, r = .s32h j
  | .sha384 => ∃ j, r = .s64h j
  | .sha512 => ∃ j, r = .s64h j
  | .sha3_224 => ∃ j, r = .ka j
  | .sha3_256 => ∃ j, r = .ka j
  | .sha3_384 => ∃ j, r = .ka j
  | .sha3_512 => ∃ j, r = .ka j
  | .shake128 => ∃ j, r = .ka j
  | .shake256 => ∃ j, r = .ka j

/-- The padded length of `n` bytes in blocks of `bs` bytes, with a length field of `lf` bytes or, with `lf = 0`,
none (R262). -/
def padTo (bs lf n : Nat) : Nat := bs * ((n + lf) / bs + 1)

/-- Block size of a variant (R260). -/
def blockBytes : Variant → Nat
  | .md5 => 64
  | .sha1 => 64
  | .sha224 => 64
  | .sha256 => 64
  | .sha384 => 128
  | .sha512 => 128
  | .sha3_224 => 144
  | .sha3_256 => 136
  | .sha3_384 => 104
  | .sha3_512 => 72
  | .shake128 => 168
  | .shake256 => 136

/-- Padded length of `n` bytes under a variant (R262). -/
def paddedLength (v : Variant) (n : Nat) : Nat :=
  match v with
  | .md5 => padTo 64 8 n
  | .sha1 => padTo 64 8 n
  | .sha224 => padTo 64 8 n
  | .sha256 => padTo 64 8 n
  | .sha384 => padTo 128 16 n
  | .sha512 => padTo 128 16 n
  | .sha3_224 => padTo 144 0 n
  | .sha3_256 => padTo 136 0 n
  | .sha3_384 => padTo 104 0 n
  | .sha3_512 => padTo 72 0 n
  | .shake128 => padTo 168 0 n
  | .shake256 => padTo 136 0 n

/-- Output length of a variant, OLEN for SHAKE (R260). -/
def outputLength (v : Variant) (s : State) : Nat :=
  match v with
  | .md5 => 16
  | .sha1 => 20
  | .sha224 => 28
  | .sha256 => 32
  | .sha384 => 48
  | .sha512 => 64
  | .sha3_224 => 28
  | .sha3_256 => 32
  | .sha3_384 => 48
  | .sha3_512 => 64
  | .shake128 => s.olen.toNat
  | .shake256 => s.olen.toNat

/-- HASH.v may run in `s`: a legal configuration, a message inside MSG, its padded form inside PBUF, an output inside
DOUT (R7, R261). -/
def Admits (v : Variant) (s : State) : Prop :=
  s.cfg.legal ∧ s.mlen.toNat ≤ s.cfg.msgCap ∧ paddedLength v s.mlen.toNat ≤ s.cfg.pbufCap ∧
    outputLength v s ≤ s.cfg.doutCap

/-- Byte `k` of a word, the least significant byte first (R105). -/
def leByte {w : Nat} (x : BitVec w) (k : Nat) : Byte := BitVec.ofNat 8 (x.toNat / 2 ^ (8 * k))

/-- Byte `k` of a word, the most significant byte first (R104). -/
def beByte {w : Nat} (x : BitVec w) (k : Nat) : Byte := BitVec.ofNat 8 (x.toNat / 2 ^ (w - 8 - 8 * k))

/-- The number `n` bytes stand for, the byte `f 0` the least significant (R103). -/
def leSum (n : Nat) (f : Nat → Byte) : Nat := ((List.range n).map fun k => (f k).toNat * 2 ^ (8 * k)).sum

/-- The number `n` bytes stand for, the byte `f 0` the most significant (R102). -/
def beSum (n : Nat) (f : Nat → Byte) : Nat := ((List.range n).map fun k => (f k).toNat * 2 ^ (8 * (n - 1 - k))).sum

/-- Byte `k` of the 200-byte view SB of 25 lanes (R31). -/
def sb (A : Lanes) (k : Nat) : Byte := leByte ((A[k / 8]?).getD 0) (k % 8)

/-! ## Faults -/

/-- R303 steps 2 and 3, with `P` the padded length. -/
def lengthTests (s : State) (P : Nat) : Option FaultCode :=
  if s.cfg.msgCap < s.mlen.toNat then some .framing else if s.cfg.pbufCap < P then some .cap else none

/-- R303 steps 4 and 6. -/
def outputTest (s : State) : Option FaultCode := if s.cfg.doutCap < s.olen.toNat then some .cap else none

/-- R303 step 5, for blocks of `bs` bytes. -/
def blockTest (s : State) (bs : Nat) : Option FaultCode :=
  if s.cfg.pbufCap < s.plen.toNat ∨ s.plen.toNat < bs * (s.bidx.toNat + 1) then some .framing else none

/-- The Fault a command raises in `s`, from the table of R303; none for the commands of R305. -/
def faultOf (s : State) : Instr → Option FaultCode
  | .padMd5 => lengthTests s (padTo 64 8 s.mlen.toNat)
  | .padSha1 => lengthTests s (padTo 64 8 s.mlen.toNat)
  | .padSha224 => lengthTests s (padTo 64 8 s.mlen.toNat)
  | .padSha256 => lengthTests s (padTo 64 8 s.mlen.toNat)
  | .padSha384 => lengthTests s (padTo 128 16 s.mlen.toNat)
  | .padSha512 => lengthTests s (padTo 128 16 s.mlen.toNat)
  | .padSha3_224 => lengthTests s (padTo 144 0 s.mlen.toNat)
  | .padSha3_256 => lengthTests s (padTo 136 0 s.mlen.toNat)
  | .padSha3_384 => lengthTests s (padTo 104 0 s.mlen.toNat)
  | .padSha3_512 => lengthTests s (padTo 72 0 s.mlen.toNat)
  | .padShake128 => lengthTests s (padTo 168 0 s.mlen.toNat)
  | .padShake256 => lengthTests s (padTo 136 0 s.mlen.toNat)
  | .hashMd5 => lengthTests s (padTo 64 8 s.mlen.toNat)
  | .hashSha1 => lengthTests s (padTo 64 8 s.mlen.toNat)
  | .hashSha224 => lengthTests s (padTo 64 8 s.mlen.toNat)
  | .hashSha256 => lengthTests s (padTo 64 8 s.mlen.toNat)
  | .hashSha384 => lengthTests s (padTo 128 16 s.mlen.toNat)
  | .hashSha512 => lengthTests s (padTo 128 16 s.mlen.toNat)
  | .hashSha3_224 => lengthTests s (padTo 144 0 s.mlen.toNat)
  | .hashSha3_256 => lengthTests s (padTo 136 0 s.mlen.toNat)
  | .hashSha3_384 => lengthTests s (padTo 104 0 s.mlen.toNat)
  | .hashSha3_512 => lengthTests s (padTo 72 0 s.mlen.toNat)
  | .hashShake128 => (lengthTests s (padTo 168 0 s.mlen.toNat)).or (outputTest s)
  | .hashShake256 => (lengthTests s (padTo 136 0 s.mlen.toNat)).or (outputTest s)
  | .compressMd5 => blockTest s 64
  | .compressSha1 => blockTest s 64
  | .compressSha224 => blockTest s 64
  | .compressSha256 => blockTest s 64
  | .compressSha384 => blockTest s 128
  | .compressSha512 => blockTest s 128
  | .absorbSha3_224 => blockTest s 144
  | .absorbSha3_256 => blockTest s 136
  | .absorbSha3_384 => blockTest s 104
  | .absorbSha3_512 => blockTest s 72
  | .absorbShake128 => blockTest s 168
  | .absorbShake256 => blockTest s 136
  | .squeezeShake128 => outputTest s
  | .squeezeShake256 => outputTest s
  | _ => none

/-! ## Which command writes and reads what -/

/-- The registers a command may write (R24, R25, R27 to R31); STATUS because it may fault. -/
def mayWrite (i : Instr) : Reg → Prop
  | .cmd => False
  | .status => True
  | .mlen => False
  | .plen => i ∈ allVariants.map Variant.pad ++ allVariants.map Variant.hash
  | .olen => False
  | .dlen => i ∈ allVariants.map Variant.out ++ allVariants.map Variant.hash
  | .xlen => i = .hex
  | .bidx => i ∈ allVariants.map Variant.init ++ allVariants.map Variant.blockCmd ++ allVariants.map Variant.hash
  | .opa => False
  | .opn => False
  | .res => i ∈ rotlRow ++ rotrRow ++ ldwRow
  | .opb _ => i ∈ stwRow
  | .md5h _ => i ∈ [.initMd5, .compressMd5, .hashMd5]
  | .sha1h _ => i ∈ [.initSha1, .compressSha1, .hashSha1]
  | .s32h _ => i ∈ [.initSha224, .initSha256, .compressSha224, .compressSha256, .hashSha224, .hashSha256]
  | .s64h _ => i ∈ [.initSha384, .initSha512, .compressSha384, .compressSha512, .hashSha384, .hashSha512]
  | .ka _ =>
    i = .keccakf ∨
      ∃ v ∈ [Variant.sha3_224, .sha3_256, .sha3_384, .sha3_512, .shake128, .shake256],
        i = v.init ∨ i = v.blockCmd ∨ i = v.out ∨ i = v.hash

/-- The memories a command may write (R33 to R35). -/
def mayStore (i : Instr) : Space → Nat → Prop
  | .msg, _ => False
  | .pbuf, _ => i ∈ allVariants.map Variant.pad ++ allVariants.map Variant.hash
  | .dout, _ => i ∈ allVariants.map Variant.out ++ allVariants.map Variant.hash
  | .xout, _ => i = .hex

/-- The registers a command reads, other than values it wrote itself: the operands its rule names (R106 to R121, R133 to
R136, R219, R230 to R247, R263 to R275). STATUS is read where a test of the rule can raise a Fault, which R301 makes
depend on it (R134, R135, R249 to R251, R262). -/
def mayRead (i : Instr) : Reg → Prop
  | .cmd => False
  | .status =>
    i ∈ allVariants.map Variant.pad ++ allVariants.map Variant.blockCmd ++ allVariants.map Variant.hash ∨
      ∃ v ∈ [Variant.sha3_224, .sha3_256, .sha3_384, .sha3_512, .shake128, .shake256], i = v.out
  | .mlen => i ∈ allVariants.map Variant.pad ++ allVariants.map Variant.hash
  | .plen => i ∈ allVariants.map Variant.blockCmd
  | .olen => i ∈ [.squeezeShake128, .squeezeShake256, .hashShake128, .hashShake256]
  | .dlen => i = .hex
  | .xlen => False
  | .bidx => i ∈ allVariants.map Variant.blockCmd
  | .opa => i ∈ rotlRow ++ rotrRow ++ stwRow
  | .opn => i ∈ rotlRow ++ rotrRow
  | .res => False
  | .opb j => i ∈ [.ldw64be, .ldw64le] ∨ i ∈ [.ldw32be, .ldw32le] ∧ j.val < 4
  | .md5h _ => i ∈ [.compressMd5, .digestMd5]
  | .sha1h _ => i ∈ [.compressSha1, .digestSha1]
  | .s32h j => i ∈ [.compressSha224, .compressSha256, .digestSha256] ∨ i = .digestSha224 ∧ j.val < 7
  | .s64h j => i ∈ [.compressSha384, .compressSha512, .digestSha512] ∨ i = .digestSha384 ∧ j.val < 6
  | .ka _ =>
    i = .keccakf ∨
      ∃ v ∈ [Variant.sha3_224, .sha3_256, .sha3_384, .sha3_512, .shake128, .shake256], i = v.blockCmd ∨ i = v.out

/-- The bytes a command reads in `s`, other than bytes it wrote itself (R33, R34, R56). -/
def mayLoad (i : Instr) (s : State) (sp : Space) (a : Nat) : Prop :=
  (i ∈ allVariants.map Variant.pad ++ allVariants.map Variant.hash ∧ sp = .msg ∧ a < s.mlen.toNat) ∨
    (∃ v, i = Variant.blockCmd v ∧ sp = .pbuf ∧ blockBytes v * s.bidx.toNat ≤ a ∧
      a < blockBytes v * (s.bidx.toNat + 1)) ∨
    (i = .hex ∧ sp = .dout ∧ a < s.dlen.toNat)

/-! ## The host's side -/

/-- The width of the register with number `k` if the host may write it, else 0 (R24, R25, R27 to R31). -/
def rwWidth (k : Nat) : Nat :=
  if k = 0x02 ∨ k = 0x03 ∨ k = 0x04 ∨ k = 0x07 ∨ k = 0x08 ∨ k = 0x09 then 64
  else if 0x10 ≤ k ∧ k ≤ 0x17 then 8
  else if (0x20 ≤ k ∧ k ≤ 0x23) ∨ (0x28 ≤ k ∧ k ≤ 0x2c) ∨ (0x30 ≤ k ∧ k ≤ 0x37) then 32
  else if 0x38 ≤ k ∧ k ≤ 0x58 then 64
  else 0

/-- The capacity of each memory (R33 to R35). -/
def capacityOf (c : Config) : Space → Nat
  | .msg => c.msgCap
  | .pbuf => c.pbufCap
  | .dout => c.doutCap
  | .xout => 2 * c.doutCap

/-! ## Shapes of the per-command statements -/

/-- The rotates (R106 to R113): `word` is the command `i`; it puts OPA's low `w` bits, moved by OPN places, to the
left or to the right, into RES, and changes nothing else. -/
def RotateRule (word : Word32) (i : Instr) (w : Nat) (left : Bool) : Prop :=
  encode i = word ∧ ∀ s : State, ∃ t, exec i s = .next t ∧ Frame s t (· = .res) noByte ∧
    ∀ j, j < 64 → t.res.getLsbD j =
      if w ≤ j then false
      else if left then s.opa.getLsbD ((j + (w - s.opn.toNat % w)) % w)
      else s.opa.getLsbD ((j + s.opn.toNat) % w)

/-- LDW (R114 to R117): the number of the first `n` bytes of OPB goes into RES; nothing else changes. -/
def LoadRule (word : Word32) (i : Instr) (n : Nat) (big : Bool) : Prop :=
  encode i = word ∧ ∀ s : State, ∃ t, exec i s = .next t ∧ Frame s t (· = .res) noByte ∧
    t.res.toNat = if big then beSum n (fun k => (s.opb[k]?).getD 0) else leSum n (fun k => (s.opb[k]?).getD 0)

/-- STW (R118 to R121): OPA's low `8 * n` bits go into the first `n` bytes of OPB; nothing else changes. -/
def StoreRule (word : Word32) (i : Instr) (n : Nat) (big : Bool) : Prop :=
  encode i = word ∧ ∀ s : State, ∃ t, exec i s = .next t ∧
    Frame s t (fun r => ∃ j : Fin 8, j.val < n ∧ r = .opb j) noByte ∧
    ∀ j : Fin 8, j.val < n → t.opb[j] =
      if big then beByte (s.opa.setWidth (8 * n)) j else leByte (s.opa.setWidth (8 * n)) j

/-- A Merkle–Damgård PAD (R134, R154, R182 to R185): the tests in order; then PBUF[0..P) takes the message, 0x80,
zeros and the bit length in `lf` bytes, and PLEN takes P. -/
def MdPadRule (word : Word32) (i : Instr) (bs lf : Nat) (big : Bool) : Prop :=
  encode i = word ∧ ∀ s : State, s.cfg.legal →
    (s.cfg.msgCap < s.mlen.toNat → exec i s = .next (s.raised .framing)) ∧
    (s.mlen.toNat ≤ s.cfg.msgCap → s.cfg.pbufCap < padTo bs lf s.mlen.toNat → exec i s = .next (s.raised .cap)) ∧
    (s.mlen.toNat ≤ s.cfg.msgCap → padTo bs lf s.mlen.toNat ≤ s.cfg.pbufCap →
      ∃ t, exec i s = .next t ∧ t.plen.toNat = padTo bs lf s.mlen.toNat ∧
        (∀ a, a < padTo bs lf s.mlen.toNat → t.peek .pbuf a =
          if a < s.mlen.toNat then s.peek .msg a
          else if a = s.mlen.toNat then 0x80
          else if a < padTo bs lf s.mlen.toNat - lf then 0
          else if big then BitVec.ofNat 8 (8 * s.mlen.toNat / 2 ^ (8 * (padTo bs lf s.mlen.toNat - 1 - a)))
          else BitVec.ofNat 8 (8 * s.mlen.toNat / 2 ^ (8 * (a - (padTo bs lf s.mlen.toNat - lf))))) ∧
        Frame s t (· = .plen) (bytesBelow .pbuf (padTo bs lf s.mlen.toNat)))

/-- A sponge PAD (R221, R249): the tests in order; then PBUF[0..P) takes the message and zeros, the suffix xored into
byte n and 0x80 set in byte P - 1, and PLEN takes P. -/
def SpongePadRule (word : Word32) (i : Instr) (r : Nat) (suffix : Byte) : Prop :=
  encode i = word ∧ ∀ s : State, s.cfg.legal →
    (s.cfg.msgCap < s.mlen.toNat → exec i s = .next (s.raised .framing)) ∧
    (s.mlen.toNat ≤ s.cfg.msgCap → s.cfg.pbufCap < padTo r 0 s.mlen.toNat → exec i s = .next (s.raised .cap)) ∧
    (s.mlen.toNat ≤ s.cfg.msgCap → padTo r 0 s.mlen.toNat ≤ s.cfg.pbufCap →
      ∃ t, exec i s = .next t ∧ t.plen.toNat = padTo r 0 s.mlen.toNat ∧
        (∀ a, a < padTo r 0 s.mlen.toNat → t.peek .pbuf a =
          (if a < s.mlen.toNat then s.peek .msg a else if a = s.mlen.toNat then suffix else 0) |||
            (if a + 1 = padTo r 0 s.mlen.toNat then 0x80 else 0)) ∧
        Frame s t (· = .plen) (bytesBelow .pbuf (padTo r 0 s.mlen.toNat)))

/-- A block command (R135, R250): the test; then `result` relates the state before to the state after, BIDX counts
up, and nothing outside the state file changes. -/
def BlockRule (word : Word32) (v : Variant) (bs : Nat) (result : State → State → Prop) : Prop :=
  encode v.blockCmd = word ∧ ∀ s : State,
    (s.cfg.pbufCap < s.plen.toNat ∨ s.plen.toNat < bs * (s.bidx.toNat + 1) →
      exec v.blockCmd s = .next (s.raised .framing)) ∧
    (s.plen.toNat ≤ s.cfg.pbufCap → bs * (s.bidx.toNat + 1) ≤ s.plen.toNat →
      ∃ t, exec v.blockCmd s = .next t ∧ result s t ∧ t.bidx.toNat = s.bidx.toNat + 1 ∧
        Frame s t (fun r => r = .bidx ∨ stateFile v r) noByte)

/-- Byte `k` of block BIDX (R34, R52). -/
def blockByte (s : State) (bs k : Nat) : Byte := s.peek .pbuf (bs * s.bidx.toNat + k)

/-- The function of MD5's round `q` (R131). -/
def md5Function (q : Nat) (b c d : Word32) : Word32 :=
  if q = 0 then (b &&& c) ||| (~~~b &&& d)
  else if q = 1 then (b &&& d) ||| (c &&& ~~~d)
  else if q = 2 then b ^^^ c ^^^ d
  else c ^^^ (b ||| ~~~d)

/-- The rotate amounts of MD5's round `q` (R132). -/
def md5Amounts (q : Nat) : List Nat :=
  if q = 0 then [7, 12, 17, 22] else if q = 1 then [5, 9, 14, 20] else if q = 2 then [4, 11, 16, 23]
  else [6, 10, 15, 21]

/-- The order in which MD5's round `q` takes the sixteen words (R132, the table written out). -/
def md5Order (q : Nat) : List Nat :=
  if q = 0 then [0, 1, 2, 3, 4, 5, 6, 7, 8, 9, 10, 11, 12, 13, 14, 15]
  else if q = 1 then [1, 6, 11, 0, 5, 10, 15, 4, 9, 14, 3, 8, 13, 2, 7, 12]
  else if q = 2 then [5, 8, 11, 14, 1, 4, 7, 10, 13, 0, 3, 6, 9, 12, 15, 2]
  else [0, 7, 14, 5, 12, 3, 10, 1, 8, 15, 6, 13, 4, 11, 2, 9]

/-- What COMPRESS.MD5 does to MD5.H (R135): `X` the words of the block, `v i` the working variables a, b, c, d before
step i. -/
def Md5Result (s t : State) : Prop :=
  ∃ (X : Nat → Word32) (v : Nat → Vector Word32 4),
    (∀ j, j < 16 → (X j).toNat = leSum 4 (fun k => blockByte s 64 (4 * j + k))) ∧ v 0 = s.md5h ∧
    (∀ i, i < 64 → v (i + 1) =
      #v[(v i)[3],
         (v i)[1] + rotl ((v i)[0] + md5Function (i / 16) (v i)[1] (v i)[2] (v i)[3] +
           X ((md5Order (i / 16)).getD (i % 16) 0) + md5K.getD i 0) ((md5Amounts (i / 16)).getD (i % 4) 0),
         (v i)[1],
         (v i)[2]]) ∧
    ∀ j : Fin 4, t.md5h[j] = s.md5h[j] + (v 64)[j]

/-- The function and the constant of SHA-1's quartile `q` (R151). -/
def sha1Function (q : Nat) (b c d : Word32) : Word32 :=
  if q = 0 then (b &&& c) ^^^ (~~~b &&& d)
  else if q = 2 then (b &&& c) ^^^ (b &&& d) ^^^ (c &&& d)
  else b ^^^ c ^^^ d

/-- What COMPRESS.SHA1 does to SHA1.H (R152, R155): `W` the schedule, `v i` the working variables a to e before
round i. -/
def Sha1Result (s t : State) : Prop :=
  ∃ (W : Nat → Word32) (v : Nat → Vector Word32 5),
    (∀ j, j < 16 → (W j).toNat = beSum 4 (fun k => blockByte s 64 (4 * j + k))) ∧
    (∀ i, 16 ≤ i → i < 80 → W i = rotl (W (i - 3) ^^^ W (i - 8) ^^^ W (i - 14) ^^^ W (i - 16)) 1) ∧
    v 0 = s.sha1h ∧
    (∀ i, i < 80 → v (i + 1) =
      #v[rotl (v i)[0] 5 + sha1Function (i / 20) (v i)[1] (v i)[2] (v i)[3] + (v i)[4] + W i +
           ([0x5a827999, 0x6ed9eba1, 0x8f1bbcdc, 0xca62c1d6].getD (i / 20) 0),
         (v i)[0],
         rotl (v i)[1] 30,
         (v i)[2],
         (v i)[3]]) ∧
    ∀ j : Fin 5, t.sha1h[j] = s.sha1h[j] + (v 80)[j]

/-- `sha2_compress_w` (R175, R176) over `rounds` rounds with constants `K` and the functions Σ0, Σ1, σ0, σ1: `B` the
bytes of the block, `W` the schedule, `v i` the working variables a to h before round i. -/
def Sha2Result {w : Nat} (rounds : Nat) (K : List (BitVec w)) (bigSigma0 bigSigma1 sigma0 sigma1 : BitVec w → BitVec w)
    (B : Nat → Byte) (H H' : Vector (BitVec w) 8) : Prop :=
  ∃ (W : Nat → BitVec w) (v : Nat → Vector (BitVec w) 8),
    (∀ j, j < 16 → (W j).toNat = beSum (w / 8) (fun k => B (w / 8 * j + k))) ∧
    (∀ i, 16 ≤ i → i < rounds → W i = W (i - 16) + sigma0 (W (i - 15)) + W (i - 7) + sigma1 (W (i - 2))) ∧
    v 0 = H ∧
    (∀ i, i < rounds →
      ∃ T1 T2 : BitVec w,
        T1 = (v i)[7] + bigSigma1 (v i)[4] + (((v i)[4] &&& (v i)[5]) ^^^ (~~~(v i)[4] &&& (v i)[6])) + K.getD i 0 + W i ∧
        T2 = bigSigma0 (v i)[0] + (((v i)[0] &&& (v i)[1]) ^^^ ((v i)[0] &&& (v i)[2]) ^^^ ((v i)[1] &&& (v i)[2])) ∧
        v (i + 1) = #v[T1 + T2, (v i)[0], (v i)[1], (v i)[2], (v i)[3] + T1, (v i)[4], (v i)[5], (v i)[6]]) ∧
    ∀ j : Fin 8, H'[j] = H[j] + (v rounds)[j]

/-- What COMPRESS.SHA224 and COMPRESS.SHA256 do to S32.H (R186, R187; the functions of R172 at w = 32). -/
def Sha2Result32 (s t : State) : Prop :=
  Sha2Result 64 k256 (fun x => rotr x 2 ^^^ rotr x 13 ^^^ rotr x 22) (fun x => rotr x 6 ^^^ rotr x 11 ^^^ rotr x 25)
    (fun x => rotr x 7 ^^^ rotr x 18 ^^^ x >>> 3) (fun x => rotr x 17 ^^^ rotr x 19 ^^^ x >>> 10)
    (blockByte s 64) s.s32h t.s32h

/-- What COMPRESS.SHA384 and COMPRESS.SHA512 do to S64.H (R188, R189; the functions of R172 at w = 64). -/
def Sha2Result64 (s t : State) : Prop :=
  Sha2Result 80 k512 (fun x => rotr x 28 ^^^ rotr x 34 ^^^ rotr x 39) (fun x => rotr x 14 ^^^ rotr x 18 ^^^ rotr x 41)
    (fun x => rotr x 1 ^^^ rotr x 8 ^^^ x >>> 7) (fun x => rotr x 19 ^^^ rotr x 61 ^^^ x >>> 6)
    (blockByte s 128) s.s64h t.s64h

/-- What ABSORB does to KA (R222): byte k of the block meets byte k of SB, then one permutation. -/
def AbsorbResult (r : Nat) (s t : State) : Prop :=
  ∃ A : Lanes, (∀ k, k < 200 → sb A k = if k < r then sb s.ka k ^^^ blockByte s r k else sb s.ka k) ∧ t.ka = keccakF A

/-- A DIGEST (R136, R156, R190 to R193): DOUT[0..L) takes the bytes, DLEN takes L. -/
def DigestRule (word : Word32) (i : Instr) (L : Nat) (byteAt : State → Nat → Byte) : Prop :=
  encode i = word ∧ ∀ s : State, ∃ t, exec i s = .next t ∧ t.dlen.toNat = L ∧
    (∀ a, a < L → t.peek .dout a = byteAt s a) ∧ Frame s t (· = .dlen) (bytesBelow .dout L)

/-- A SQUEEZE (R223, R251) at rate `r`, of `L` bytes: the test; then bytes r * k upward of the output are the first
bytes of SB after k permutations, and KA is left after as many permutations as it takes to get there. -/
def SqueezeRule (word : Word32) (i : Instr) (r : Nat) (L : State → Nat) : Prop :=
  encode i = word ∧ ∀ s : State, s.cfg.legal →
    (s.cfg.doutCap < L s → exec i s = .next (s.raised .cap)) ∧
    (L s ≤ s.cfg.doutCap →
      ∃ t, exec i s = .next t ∧ t.dlen.toNat = L s ∧
        (∀ k j, j < r → r * k + j < L s → t.peek .dout (r * k + j) = sb (keccakF^[k] s.ka) j) ∧
        t.ka = keccakF^[(L s + r - 1) / r - 1] s.ka ∧
        Frame s t (fun q => q = .dlen ∨ ∃ j, q = .ka j) (bytesBelow .dout (L s)))

/-- The ASCII code of a hexadecimal digit (R275). -/
def hexDigit (d : Nat) : Byte :=
  [0x30, 0x31, 0x32, 0x33, 0x34, 0x35, 0x36, 0x37, 0x38, 0x39, 0x61, 0x62, 0x63, 0x64, 0x65, 0x66].getD d 0

/-- XOUT holds the text of the first `n` bytes of DOUT as they stand in `s` (R53, R275). -/
def TextOf (s t : State) (n : Nat) : Prop :=
  ∀ a, a < n → t.peek .xout (2 * a) = hexDigit ((s.peek .dout a).toNat / 16) ∧
    t.peek .xout (2 * a + 1) = hexDigit ((s.peek .dout a).toNat % 16)

/-- The offsets of ρ by the walk of FIPS 202 (R211): the offset of the t-th lane visited, and where the walk goes. -/
def rhoWalk : Nat → Nat × Nat
  | 0 => (1, 0)
  | t + 1 => ((rhoWalk t).2, (2 * (rhoWalk t).1 + 3 * (rhoWalk t).2) % 5)

/-- The LFSR x^8 + x^6 + x^5 + x^4 + 1 behind the round constants (R212), its state after `t` steps, bit 0 the output. -/
def lfsr : Nat → Byte
  | 0 => 1
  | t + 1 => if (lfsr t).getLsbD 7 then (lfsr t <<< 1) ^^^ 0x71 else lfsr t <<< 1

/-- One word of each family, with the command it is, written out from R72 to R76. -/
def sampleWords : List (Word32 × Instr) :=
  [(0x00000201, .rotl32), (0x00000302, .rotr64), (0x00000103, .ldw64be), (0x00000203, .ldw32le), (0x00000104, .stw64be),
    (0x00000010, .initMd5), (0x00000b10, .initShake256), (0x00000111, .padSha1), (0x00000511, .padSha512)] ++
  [(0x00000312, .compressSha256), (0x00000612, .absorbSha3_224), (0x00000413, .digestSha384),
    (0x00000a13, .squeezeShake128), (0x00000714, .hashSha3_256), (0x00000015, .hex), (0x00000016, .keccakf)]

/-- Words that are no command, one for each reason of R77. -/
def illegalWords : List Word32 :=
  [0x00000000, 0x00001001, 0x80000010, 0x00000005, 0x00000017, 0x000000ff, 0x00000401, 0x00000f02, 0x00000403,
    0x00000404, 0x00000c10, 0x00000c14, 0x00000115, 0x00000116]

/-- The machine with the primitives `ops` to come. -/
def withOps (s : State) (ops : List HostOp) : State := { s with pending := ops }

end Sys2Proof.Claims

open Sys2Proof Sys2Proof.Machine Sys2Proof.Claims

/-! ## Encoding -/

/-- R72 to R76: one word of each family, written out, decodes to its command; a word of each illegal kind of R77
decodes to none. -/
def Obligations.WordsDecodeAsTheTableSays : Prop :=
  (∀ p ∈ sampleWords, decode p.1 = .instr p.2 ∧ decodeTableWord 32 p.1.toNat = some p.2) ∧
    ∀ w ∈ illegalWords, ∀ i, decode w ≠ .instr i

/-- R76, R77: a word decodes to a command exactly when it is that command's word, so decoding an encoded command
gives it back and no other word is the command. -/
def Obligations.DecodeAndEncodeAgree : Prop := ∀ (w : Word32) (i : Instr), decode w = .instr i ↔ w = encode i

/-- R77: the legal words by their fields are the words of the commands; every other word is no command and raises
F_ILLCMD. -/
def Obligations.IllegalWordsRaiseIllcmd : Prop :=
  ∀ w : Word32,
    ((w.extractLsb' 12 20 = 0 ∧
        (((w.extractLsb' 0 8).toNat ∈ [0x01, 0x02, 0x03, 0x04] ∧ (w.extractLsb' 8 4).toNat ≤ 3) ∨
          ((w.extractLsb' 0 8).toNat ∈ [0x10, 0x11, 0x12, 0x13, 0x14] ∧ (w.extractLsb' 8 4).toNat ≤ 11) ∨
          ((w.extractLsb' 0 8).toNat ∈ [0x15, 0x16] ∧ (w.extractLsb' 8 4).toNat = 0))) ↔ ∃ i, w = encode i) ∧
    ((∃ i, w = encode i ∧ decode w = .instr i) ∨
      ((∀ i, w ≠ encode i) ∧ (∃ why, decode w = .illegal why) ∧
        ∀ s : State, s.faulted = false → issueCommand w s = .next (s.raised .illcmd)))

/-! ## A step, and the host's primitives -/

/-- R311, R70: the next primitive writes a value to CMD whose low 32 bits are a command's word, and no fault is
recorded: the step is exec of that command, on the state without that primitive (log 4). `withFetchWord` puts such a
primitive first. -/
def Obligations.StepRunsTheDecodedCommand : Prop :=
  (∀ (s : State) (v : Word64) (rest : List HostOp) (i : Instr),
    s.pending = .regWrite 0x00 v :: rest → s.faulted = false → decode (v.setWidth 32) = .instr i →
      step s = exec i (withOps s rest)) ∧
  ∀ (s : State) (nbits w : Nat) (i : Instr), s.faulted = false → decodeTableWord nbits w = some i →
    step (s.withFetchWord nbits w) = exec i s

/-- R331, R312: with no primitive to come a step changes nothing (log 4). -/
def Obligations.StepWaitsForTheHost : Prop := ∀ s : State, s.pending = [] → step s = .next s

/-- R24, R25, R27 to R31: which register each number names, as the host reads it. -/
def Obligations.RegisterNumbersNameTheRegisters : Prop :=
  ∀ s : State,
    s.hostRegRead 0x01 = s.status.setWidth 64 ∧ s.hostRegRead 0x02 = s.mlen ∧ s.hostRegRead 0x03 = s.plen ∧
    s.hostRegRead 0x04 = s.olen ∧ s.hostRegRead 0x05 = s.dlen ∧ s.hostRegRead 0x06 = s.xlen ∧
    s.hostRegRead 0x07 = s.bidx ∧ s.hostRegRead 0x08 = s.opa ∧ s.hostRegRead 0x09 = s.opn ∧
    s.hostRegRead 0x0a = s.res ∧
    (∀ j : Fin 8, s.hostRegRead (0x10 + j) = s.opb[j].setWidth 64) ∧
    (∀ j : Fin 4, s.hostRegRead (0x20 + j) = s.md5h[j].setWidth 64) ∧
    (∀ j : Fin 5, s.hostRegRead (0x28 + j) = s.sha1h[j].setWidth 64) ∧
    (∀ j : Fin 8, s.hostRegRead (0x30 + j) = s.s32h[j].setWidth 64) ∧
    (∀ j : Fin 8, s.hostRegRead (0x38 + j) = s.s64h[j]) ∧
    (∀ j : Fin 25, s.hostRegRead (0x40 + j) = s.ka[j]) ∧
    ∀ k, (k = 0x00 ∨ (0x0b ≤ k ∧ k ≤ 0x0f) ∨ (0x18 ≤ k ∧ k ≤ 0x1f) ∨ (0x24 ≤ k ∧ k ≤ 0x27) ∨
      (0x2d ≤ k ∧ k ≤ 0x2f) ∨ 0x59 ≤ k) → s.hostRegRead k = 0

/-- R24, R310: a host write to a number other than CMD. A writable register takes the value cut to its width; a
read-only or unassigned number takes nothing; every other number reads as before, and no byte of memory changes. -/
def Obligations.HostRegisterWrite : Prop :=
  ∀ (s : State) (k : Nat) (v : Word64), k ≠ 0x00 →
    ∃ t, hostStep (.regWrite k v) s = .next t ∧
      (∀ k', t.hostRegRead k' =
        if k' = k ∧ 0 < rwWidth k then BitVec.ofNat 64 (v.toNat % 2 ^ rwWidth k) else s.hostRegRead k') ∧
      (∀ sp a, t.peek sp a = s.peek sp a) ∧ t.cfg = s.cfg ∧ t.epoch = s.epoch ∧ t.pending = s.pending ∧
      t.reads = s.reads

/-- R32, R310: a host write of one byte, to MSG or PBUF below capacity, shows in that byte alone; any other is
ignored. A host read at or above capacity gives 0. -/
def Obligations.HostMemoryWrite : Prop :=
  (∀ (s : State) (sp : Space) (a : Nat) (b : Byte),
    ∃ t, hostStep (.memWrite sp a b) s = .next t ∧
      (∀ sp' a', t.peek sp' a' =
        if sp' = sp ∧ a' = a ∧ (sp = .msg ∨ sp = .pbuf) ∧ a < capacityOf s.cfg sp then b else s.peek sp' a') ∧
      (∀ r, t.getReg r = s.getReg r) ∧ t.cfg = s.cfg ∧ t.epoch = s.epoch ∧ t.pending = s.pending ∧
      t.reads = s.reads) ∧
  ∀ (s : State) (sp : Space) (a : Nat),
    s.hostMemRead sp a = if capacityOf s.cfg sp ≤ a then 0 else s.peek sp a

/-- R57, R310: a host read changes no register and no byte; it adds what it returns to the record of the run
(log 5). -/
def Obligations.HostReadsChangeNothing : Prop :=
  ∀ s : State,
    (∀ k, hostStep (.regRead k) s = .next { s with reads := .reg k (s.hostRegRead k) :: s.reads }) ∧
    ∀ sp a, hostStep (.memRead sp a) s = .next { s with reads := .mem sp a (s.hostMemRead sp a) :: s.reads }

/-- R37, R330: in the reset state, and after the primitive Reset in any state, every register number reads 0, no fault
is recorded and no byte of memory is known. A Reset keeps the configuration, the host's primitives and its record
(log 1, 4, 5) and makes every byte a fresh free value (log 2, 3). -/
def Obligations.ResetClearsRegistersAndForgetsMemory : Prop :=
  ((∀ k, State.reset.hostRegRead k = 0) ∧ State.reset.faulted = false ∧
    ∀ sp a, (State.reset.mem sp).get? a = none ∧ State.reset.peek sp a = Config.unspecifiedByte 0 sp a) ∧
  ∀ s : State, ∃ t, hostStep .reset s = .next t ∧ (∀ k, t.hostRegRead k = 0) ∧ t.faulted = false ∧
    (∀ sp a, (t.mem sp).get? a = none ∧ t.peek sp a = Config.unspecifiedByte (s.epoch + 1) sp a) ∧
    t.cfg = s.cfg ∧ t.pending = s.pending ∧ t.reads = s.reads

/-- R79: LOADMSG puts the bytes at MSG[0..) and their number in MLEN, and changes nothing else. -/
def Obligations.LoadmsgLoadsTheMessage : Prop :=
  ∀ (s : State) (bs : List Byte) (rest : List HostOp), bs.length ≤ s.cfg.msgCap → bs.length < 2 ^ 64 →
    ∃ t, Host.Core.run core (bs.length + 1) (withOps s (loadMsg bs ++ rest)) = .next t ∧ t.pending = rest ∧
      t.mlen.toNat = bs.length ∧ (∀ i, i < bs.length → t.peek .msg i = bs.getD i 0) ∧
      Frame (withOps s rest) t (· = .mlen) (bytesBelow .msg bs.length)

/-! ## Faults -/

/-- R302: with no fault recorded, STATUS reads as 1 + 256 * FCODE after one. -/
def Obligations.FaultCodesReadBack : Prop :=
  ∀ s : State, s.status = 0 →
    (∃ t, raise .illcmd s = .next t ∧ t.hostRegRead 0x01 = 0x101) ∧
    (∃ t, raise .framing s = .next t ∧ t.hostRegRead 0x01 = 0x201) ∧
    ∃ t, raise .cap s = .next t ∧ t.hostRegRead 0x01 = 0x301

/-- R301: a Fault sets FAULT and FCODE if FAULT was 0 and changes nothing else; and a command that ends in a Fault
leaves the state before it but for those two fields of STATUS. -/
def Obligations.FaultIsPrecise : Prop :=
  (∀ (c : FaultCode) (s : State), s.faulted = true → raise c s = .next s) ∧
  (∀ (c : FaultCode) (s : State), s.faulted = false → ∃ t, raise c s = .next t ∧ t.faulted = true ∧
    t.fcode = c.code ∧ (∀ n, n ≠ 0 → n < 8 ∨ 12 ≤ n → t.status.getLsbD n = s.status.getLsbD n) ∧
    t = { s with status := t.status }) ∧
  ∀ (i : Instr) (s t : State), s.faulted = false → exec i s = .next t → t.faulted = true →
    ∃ c : FaultCode, raise c s = .next t

/-- R303, R305: what every command word does about faults, in the order of the tests: nothing while FAULT is 1; the
first fault of the table otherwise; and where the table gives none, the command completes with STATUS as it was. -/
def Obligations.FaultConditions : Prop :=
  ∀ (w : Word32) (s : State), s.cfg.legal → s.dlen.toNat ≤ s.cfg.doutCap →
    (s.faulted = true → issueCommand w s = .next s) ∧
    (s.faulted = false → (∀ i, w ≠ encode i) → issueCommand w s = .next (s.raised .illcmd)) ∧
    ∀ i, w = encode i → s.faulted = false →
      (∀ c, faultOf s i = some c → issueCommand w s = .next (s.raised c) ∧ exec i s = .next (s.raised c)) ∧
      (faultOf s i = none → ∃ t, issueCommand w s = .next t ∧ exec i s = .next t ∧ t.status = s.status)

/-- R36, R304, R330: while FAULT is 1 a write to CMD changes nothing, and no primitive but Reset changes STATUS;
FAULT is set by a write to CMD alone, and Reset clears it. -/
def Obligations.FaultIsSticky : Prop :=
  ∀ (op : HostOp) (s t : State), hostStep op s = .next t →
    (s.faulted = true → (∃ v, op = .regWrite 0x00 v) → t = s) ∧
    (s.faulted = true → op ≠ .reset → t.status = s.status) ∧
    (t.faulted = true → s.faulted = false → ∃ v, op = .regWrite 0x00 v) ∧
    (op = .reset → t.faulted = false)

/-! ## Invariants and whole-machine rules -/

/-- The invariant holds in the reset state. -/
def Obligations.InvariantHoldsAtReset : Prop := Safety.Inv State.reset

/-- R7, R32, R275, R302, R333: every step keeps the invariant: a legal configuration, a STATUS of R302, canonical
memories inside their capacities, and DLEN and XLEN describing bytes that exist and have been written since reset. -/
def Obligations.StepKeepsTheInvariant : Prop :=
  ∀ s t : State, Safety.Inv s → step s = .next t → Safety.Inv t

/-- R312: "CORE is never stuck": in a state of the invariant every step gives a next state. -/
def Obligations.StepIsTotal : Prop := ∀ s : State, Safety.Inv s → ∃ t, step s = .next t

/-- R24 to R31, R33 to R35: the only registers and memories a command changes are those whose rules name it; no
command writes MLEN, OLEN, OPA, OPN or MSG, nor the configuration, the host's list or its record. -/
def Obligations.OnlyTheNamedCommandsWrite : Prop :=
  ∀ (i : Instr) (s t : State), exec i s = .next t → Frame s t (mayWrite i) (mayStore i)

/-- R20, R24, R25, R27 to R31, R33, R34, R56, R57: what a command does depends on the registers its rule reads (`mayRead`),
the capacities and the bytes its rule reads (`mayLoad`), and on nothing else. Take a second state that agrees with `s` on
those: the command completes there too, and each register and each byte on which the two states agreed before, or which
the command changed, is the same in both afterwards. -/
def Obligations.CommandsReadOnlyTheirOperands : Prop :=
  ∀ (i : Instr) (s s' t : State), (∀ r, mayRead i r → s.getReg r = s'.getReg r) → s.cfg = s'.cfg →
    (∀ sp a, mayLoad i s sp a → s.peek sp a = s'.peek sp a) → exec i s = .next t →
      ∃ t', exec i s' = .next t' ∧
        (∀ r, s.getReg r = s'.getReg r ∨ t.getReg r ≠ s.getReg r → t.getReg r = t'.getReg r) ∧
        ∀ sp a, s.peek sp a = s'.peek sp a ∨ t.peek sp a ≠ s.peek sp a → t.peek sp a = t'.peek sp a

/-! ## BitOps -/

/-- R100, R101: rotation by bits and by the formulas, for any width, and the laws that follow from them. -/
def Obligations.RotationLaws : Prop :=
  ∀ (w : Nat) (x : BitVec w) (n : Nat), 1 ≤ w →
    (rotl x n).toNat = x.toNat * 2 ^ (n % w) % 2 ^ w + x.toNat / 2 ^ (w - n % w) ∧
    (rotr x n).toNat = x.toNat / 2 ^ (n % w) + x.toNat * 2 ^ (w - n % w) % 2 ^ w ∧
    (∀ i, i < w → (rotl x n).getLsbD ((i + n % w) % w) = x.getLsbD i) ∧
    (∀ i, i < w → (rotr x n).getLsbD ((i + (w - n % w)) % w) = x.getLsbD i) ∧
    (n % w = 0 → rotl x n = x ∧ rotr x n = x) ∧
    rotr x n = rotl x ((w - n % w) % w) ∧ rotr (rotl x n) n = x ∧ rotl x (n + w) = rotl x n

/-- R102 to R105: assembly and serialisation, and that each pair is inverse. -/
def Obligations.WordAssemblyLaws : Prop :=
  (∀ w ∈ [32, 64], ∀ bs : List Byte, bs.length = w / 8 →
    (beWord w bs).toNat = beSum (w / 8) (fun k => bs.getD k 0) ∧
    (leWord w bs).toNat = leSum (w / 8) (fun k => bs.getD k 0) ∧
    toBe (beWord w bs) = bs ∧ toLe (leWord w bs) = bs) ∧
  (∀ w ∈ [32, 64], ∀ x : BitVec w, beWord w (toBe x) = x ∧ leWord w (toLe x) = x) ∧
  ∀ w ∈ [32, 64, 128], ∀ x : BitVec w,
    (toBe x).length = w / 8 ∧ (toLe x).length = w / 8 ∧
    ∀ i, i < w / 8 → (toBe x).getD i 0 = beByte x i ∧ (toLe x).getD i 0 = leByte x i

/-- R106 to R113: the eight rotates, bit by bit. -/
def Obligations.RotateCommands : Prop :=
  RotateRule 0x00000001 .rotl8 8 true ∧ RotateRule 0x00000101 .rotl16 16 true ∧
  RotateRule 0x00000201 .rotl32 32 true ∧ RotateRule 0x00000301 .rotl64 64 true ∧
  RotateRule 0x00000002 .rotr8 8 false ∧ RotateRule 0x00000102 .rotr16 16 false ∧
  RotateRule 0x00000202 .rotr32 32 false ∧ RotateRule 0x00000302 .rotr64 64 false

/-- R114 to R117: the four word loads. -/
def Obligations.LoadWordCommands : Prop :=
  LoadRule 0x00000003 .ldw32be 4 true ∧ LoadRule 0x00000103 .ldw64be 8 true ∧
  LoadRule 0x00000203 .ldw32le 4 false ∧ LoadRule 0x00000303 .ldw64le 8 false

/-- R118 to R121: the four word stores. -/
def Obligations.StoreWordCommands : Prop :=
  StoreRule 0x00000004 .stw32be 4 true ∧ StoreRule 0x00000104 .stw64be 8 true ∧
  StoreRule 0x00000204 .stw32le 4 false ∧ StoreRule 0x00000304 .stw64le 8 false

/-! ## INIT -/

/-- R133, R153, R178 to R181 (with R130, R150, R171): the six Merkle–Damgård INIT commands put the initial vector in
the state file and 0 in BIDX, and change nothing else. -/
def Obligations.MerkleDamgardInit : Prop :=
  (encode .initMd5 = 0x00000010 ∧ ∀ s : State, exec .initMd5 s =
    .next { s with md5h := #v[0x67452301, 0xefcdab89, 0x98badcfe, 0x10325476], bidx := 0 }) ∧
  (encode .initSha1 = 0x00000110 ∧ ∀ s : State, exec .initSha1 s =
    .next { s with sha1h := #v[0x67452301, 0xefcdab89, 0x98badcfe, 0x10325476, 0xc3d2e1f0], bidx := 0 }) ∧
  (encode .initSha224 = 0x00000210 ∧ ∀ s : State, exec .initSha224 s =
    .next { s with s32h := #v[0xc1059ed8, 0x367cd507, 0x3070dd17, 0xf70e5939,
                              0xffc00b31, 0x68581511, 0x64f98fa7, 0xbefa4fa4], bidx := 0 }) ∧
  (encode .initSha256 = 0x00000310 ∧ ∀ s : State, exec .initSha256 s =
    .next { s with s32h := #v[0x6a09e667, 0xbb67ae85, 0x3c6ef372, 0xa54ff53a,
                              0x510e527f, 0x9b05688c, 0x1f83d9ab, 0x5be0cd19], bidx := 0 }) ∧
  (encode .initSha384 = 0x00000410 ∧ ∀ s : State, exec .initSha384 s =
    .next { s with s64h := #v[0xcbbb9d5dc1059ed8, 0x629a292a367cd507, 0x9159015a3070dd17, 0x152fecd8f70e5939,
                              0x67332667ffc00b31, 0x8eb44a8768581511, 0xdb0c2e0d64f98fa7, 0x47b5481dbefa4fa4],
                   bidx := 0 }) ∧
  (encode .initSha512 = 0x00000510 ∧ ∀ s : State, exec .initSha512 s =
    .next { s with s64h := #v[0x6a09e667f3bcc908, 0xbb67ae8584caa73b, 0x3c6ef372fe94f82b, 0xa54ff53a5f1d36f1,
                              0x510e527fade682d1, 0x9b05688c2b3e6c1f, 0x1f83d9abfb41bd6b, 0x5be0cd19137e2179],
                   bidx := 0 })

/-- R224 to R229: the six sponge INIT commands put 0 in every lane and in BIDX, and change nothing else. -/
def Obligations.SpongeInit : Prop :=
  encode .initSha3_224 = 0x00000610 ∧ encode .initSha3_256 = 0x00000710 ∧ encode .initSha3_384 = 0x00000810 ∧
  encode .initSha3_512 = 0x00000910 ∧ encode .initShake128 = 0x00000a10 ∧ encode .initShake256 = 0x00000b10 ∧
  ∀ i ∈ [Instr.initSha3_224, .initSha3_256, .initSha3_384, .initSha3_512, .initShake128, .initShake256],
    ∀ s : State, ∃ t, exec i s = .next t ∧ (∀ j : Fin 25, t.ka[j] = 0) ∧ t.bidx = 0 ∧
      Frame s t (fun r => r = .bidx ∨ ∃ j, r = .ka j) noByte

/-! ## PAD -/

/-- R134, R154, R177, R182 to R185: the six Merkle–Damgård PAD commands, byte by byte. -/
def Obligations.MerkleDamgardPad : Prop :=
  MdPadRule 0x00000011 .padMd5 64 8 false ∧ MdPadRule 0x00000111 .padSha1 64 8 true ∧
  MdPadRule 0x00000211 .padSha224 64 8 true ∧ MdPadRule 0x00000311 .padSha256 64 8 true ∧
  MdPadRule 0x00000411 .padSha384 128 16 true ∧ MdPadRule 0x00000511 .padSha512 128 16 true

/-- R221, R249, R230 to R235: the six sponge PAD commands, byte by byte. -/
def Obligations.SpongePad : Prop :=
  SpongePadRule 0x00000611 .padSha3_224 144 0x06 ∧ SpongePadRule 0x00000711 .padSha3_256 136 0x06 ∧
  SpongePadRule 0x00000811 .padSha3_384 104 0x06 ∧ SpongePadRule 0x00000911 .padSha3_512 72 0x06 ∧
  SpongePadRule 0x00000a11 .padShake128 168 0x1f ∧ SpongePadRule 0x00000b11 .padShake256 136 0x1f

/-- R137: PAD.MD5 and PAD.SHA1 on the same message give the same PLEN, the same bytes but for the last eight, and the
last eight in reverse order. -/
def Obligations.Md5AndSha1PadDifferInTheLengthField : Prop :=
  ∀ s : State, s.cfg.legal → s.mlen.toNat ≤ s.cfg.msgCap → padTo 64 8 s.mlen.toNat ≤ s.cfg.pbufCap →
    ∃ t u, exec .padMd5 s = .next t ∧ exec .padSha1 s = .next u ∧ t.plen = u.plen ∧
      (∀ a, a + 8 < t.plen.toNat → t.peek .pbuf a = u.peek .pbuf a) ∧
      ∀ k, k < 8 → t.peek .pbuf (t.plen.toNat - 8 + k) = u.peek .pbuf (u.plen.toNat - 1 - k)

/-! ## COMPRESS and ABSORB -/

/-- R135 (with R131 and the amounts and orders of R132): COMPRESS.MD5, the 64 steps and the feed-forward. -/
def Obligations.CompressMd5 : Prop := BlockRule 0x00000012 .md5 64 Md5Result

/-- R132: "MD5_K[i] = floor(2^32 * |sin(i + 1)|), i + 1 in radians". -/
def Obligations.Md5ConstantsAreSines : Prop :=
  md5K.length = 64 ∧ ∀ i : Nat, i < 64 → ⌊(2 : ℝ) ^ 32 * |Real.sin (i + 1)|⌋ = ((md5K.getD i 0).toNat : ℤ)

/-- R155, R152, R151: COMPRESS.SHA1, the schedule, the 80 rounds and the feed-forward. -/
def Obligations.CompressSha1 : Prop := BlockRule 0x00000112 .sha1 64 Sha1Result

/-- R186 to R189, R172, R175, R176: the four SHA-2 COMPRESS commands, the schedule, the rounds and the feed-forward. -/
def Obligations.CompressSha2 : Prop :=
  BlockRule 0x00000212 .sha224 64 Sha2Result32 ∧ BlockRule 0x00000312 .sha256 64 Sha2Result32 ∧
  BlockRule 0x00000412 .sha384 128 Sha2Result64 ∧ BlockRule 0x00000512 .sha512 128 Sha2Result64

/-- R173, R174: each round constant is the first 32 (64) bits of the fractional part of the cube root of a prime, the
i-th constant of the i-th prime; and the high half of K512 is K256. -/
def Obligations.Sha2ConstantsAreCubeRoots : Prop :=
  (k256.length = 64 ∧ ∀ i, i < 64 → ∃ a, (a * 2 ^ 32 + (k256.getD i 0).toNat) ^ 3 ≤ Nat.nth Nat.Prime i * 2 ^ 96 ∧
    Nat.nth Nat.Prime i * 2 ^ 96 < (a * 2 ^ 32 + (k256.getD i 0).toNat + 1) ^ 3) ∧
  (k512.length = 80 ∧ ∀ i, i < 80 → ∃ a, (a * 2 ^ 64 + (k512.getD i 0).toNat) ^ 3 ≤ Nat.nth Nat.Prime i * 2 ^ 192 ∧
    Nat.nth Nat.Prime i * 2 ^ 192 < (a * 2 ^ 64 + (k512.getD i 0).toNat + 1) ^ 3) ∧
  ∀ i, i < 64 → (k512.getD i 0).toNat / 2 ^ 32 = (k256.getD i 0).toNat

/-- R222, R250, R236 to R241: the six ABSORB commands. -/
def Obligations.AbsorbCommands : Prop :=
  BlockRule 0x00000612 .sha3_224 144 (AbsorbResult 144) ∧ BlockRule 0x00000712 .sha3_256 136 (AbsorbResult 136) ∧
  BlockRule 0x00000812 .sha3_384 104 (AbsorbResult 104) ∧ BlockRule 0x00000912 .sha3_512 72 (AbsorbResult 72) ∧
  BlockRule 0x00000a12 .shake128 168 (AbsorbResult 168) ∧ BlockRule 0x00000b12 .shake256 136 (AbsorbResult 136)

/-! ## Keccak-f[1600] -/

/-- R213 to R217: the five steps, lane by lane; `x - 1` is written `x + 4`, indices being modulo 5 (R210). -/
def Obligations.KeccakSteps : Prop :=
  ∀ (A : Lanes) (rc : Word64) (x y : Fin 5),
    (∃ C D : Nat → Word64,
      (∀ x, C x = lane A x 0 ^^^ lane A x 1 ^^^ lane A x 2 ^^^ lane A x 3 ^^^ lane A x 4) ∧
      (∀ x, D x = C (x + 4) ^^^ rotl (C (x + 1)) 1) ∧ lane (theta A) x y = lane A x y ^^^ D x) ∧
    lane (rho A) x y = rotl (lane A x y)
      (([[0, 36, 3, 41, 18], [1, 44, 10, 45, 2], [62, 6, 43, 15, 61], [28, 55, 25, 21, 56], [27, 20, 39, 8, 14]].getD x
        []).getD y 0) ∧
    lane (pi A) y ((2 * x + 3 * y) % 5) = lane A x y ∧
    lane (chi A) x y = lane A x y ^^^ (~~~lane A (x + 1) y &&& lane A (x + 2) y) ∧
    lane (iota rc A) x y = if x = 0 ∧ y = 0 then lane A 0 0 ^^^ rc else lane A x y

/-- R211: the offsets of ρ are those of the walk of FIPS 202. -/
def Obligations.RhoOffsetsFollowTheWalk : Prop :=
  rhoOffset[0] = 0 ∧ ∀ t, t < 24 →
    (rhoOffset[(rhoWalk t).1 + 5 * (rhoWalk t).2]?).getD 64 = (t + 1) * (t + 2) / 2 % 64

/-- R212: the round constants are those of the LFSR of FIPS 202. -/
def Obligations.RoundConstantsFollowTheLfsr : Prop :=
  roundConst.length = 24 ∧ ∀ i, i < 24 → ∀ b, b < 64 → (roundConst.getD i 0).getLsbD b =
    (List.range 7).any fun j => b == 2 ^ j - 1 && (lfsr (j + 7 * i)).getLsbD 0

/-- R218: keccak_f is the 24 rounds in order. -/
def Obligations.KeccakIsTwentyFourRounds : Prop :=
  ∀ A : Lanes, ∃ a : Nat → Lanes, a 0 = A ∧ keccakF A = a 24 ∧
    ∀ i, i < 24 → a (i + 1) = iota (roundConst.getD i 0) (chi (pi (rho (theta (a i)))))

/-- R218: "It is a bijection on the 2^1600 states". -/
def Obligations.KeccakIsABijection : Prop := Function.Bijective keccakF

/-- R219: KECCAKF permutes KA and changes nothing else. -/
def Obligations.KeccakfCommand : Prop :=
  encode .keccakf = 0x00000016 ∧ ∀ s : State, exec .keccakf s = .next { s with ka := keccakF s.ka }

/-! ## DIGEST and SQUEEZE -/

/-- R136, R156, R190 to R193: the six DIGEST commands, byte by byte. -/
def Obligations.DigestCommands : Prop :=
  DigestRule 0x00000013 .digestMd5 16 (fun s a => leByte (s.md5h.toList.getD (a / 4) 0) (a % 4)) ∧
  DigestRule 0x00000113 .digestSha1 20 (fun s a => beByte (s.sha1h.toList.getD (a / 4) 0) (a % 4)) ∧
  DigestRule 0x00000213 .digestSha224 28 (fun s a => beByte (s.s32h.toList.getD (a / 4) 0) (a % 4)) ∧
  DigestRule 0x00000313 .digestSha256 32 (fun s a => beByte (s.s32h.toList.getD (a / 4) 0) (a % 4)) ∧
  DigestRule 0x00000413 .digestSha384 48 (fun s a => beByte (s.s64h.toList.getD (a / 8) 0) (a % 8)) ∧
  DigestRule 0x00000513 .digestSha512 64 (fun s a => beByte (s.s64h.toList.getD (a / 8) 0) (a % 8))

/-- R194: SHA224 and SHA384 share padding and compression with SHA256 and SHA512, and their digests are prefixes of the
ones the longer variant writes from the same state. -/
def Obligations.TruncationIsAtTheEndOnly : Prop :=
  ∀ s : State,
    exec .padSha224 s = exec .padSha256 s ∧ exec .compressSha224 s = exec .compressSha256 s ∧
    exec .padSha384 s = exec .padSha512 s ∧ exec .compressSha384 s = exec .compressSha512 s ∧
    (∃ t u, exec .digestSha224 s = .next t ∧ exec .digestSha256 s = .next u ∧ t.dlen = 28 ∧ u.dlen = 32 ∧
      ∀ a, a < 28 → t.peek .dout a = u.peek .dout a) ∧
    ∃ t u, exec .digestSha384 s = .next t ∧ exec .digestSha512 s = .next u ∧ t.dlen = 48 ∧ u.dlen = 64 ∧
      ∀ a, a < 48 → t.peek .dout a = u.peek .dout a

/-- R223, R251, R242 to R247: the six SQUEEZE commands. -/
def Obligations.SqueezeCommands : Prop :=
  SqueezeRule 0x00000613 .squeezeSha3_224 144 (fun _ => 28) ∧ SqueezeRule 0x00000713 .squeezeSha3_256 136 (fun _ => 32) ∧
  SqueezeRule 0x00000813 .squeezeSha3_384 104 (fun _ => 48) ∧ SqueezeRule 0x00000913 .squeezeSha3_512 72 (fun _ => 64) ∧
  SqueezeRule 0x00000a13 .squeezeShake128 168 (fun s => s.olen.toNat) ∧
  SqueezeRule 0x00000b13 .squeezeShake256 136 (fun s => s.olen.toNat)

/-- R223: the shorter of two SHAKE outputs from the same KA is a prefix of the longer, whatever else differs. -/
def Obligations.ShakeOutputsArePrefixes : Prop :=
  ∀ i ∈ [Instr.squeezeShake128, .squeezeShake256], ∀ s s' : State, s.ka = s'.ka → s.olen.toNat ≤ s'.olen.toNat →
    s.cfg.legal → s'.cfg.legal → s.olen.toNat ≤ s.cfg.doutCap → s'.olen.toNat ≤ s'.cfg.doutCap →
      ∃ t t', exec i s = .next t ∧ exec i s' = .next t' ∧
        ∀ a, a < s.olen.toNat → t.peek .dout a = t'.peek .dout a

/-- R337: after a SHAKE squeeze that ran k permutations a second one gives the stream from byte k * r onward: the bytes
a single longer squeeze of the first state would have given there. -/
def Obligations.SqueezingTwice : Prop :=
  ∀ p ∈ [(Instr.squeezeShake128, 168), (Instr.squeezeShake256, 136)], ∀ (s : State) (L1 L2 L : Word64),
    s.cfg.legal → L1.toNat ≤ s.cfg.doutCap → L2.toNat ≤ s.cfg.doutCap → L.toNat ≤ s.cfg.doutCap →
      ∃ t u w, exec p.1 { s with olen := L1 } = .next t ∧ exec p.1 { t with olen := L2 } = .next u ∧
        exec p.1 { s with olen := L } = .next w ∧
        ∀ a, a < L2.toNat → p.2 * ((L1.toNat + p.2 - 1) / p.2 - 1) + a < L.toNat →
          u.peek .dout a = w.peek .dout (p.2 * ((L1.toNat + p.2 - 1) / p.2 - 1) + a)

/-! ## HASH and HEX -/

/-- R262, with R263 to R274: every HASH.v: the tests in order, before any write; then what stands at the end, and what
does not change. -/
def Obligations.HashCommands : Prop :=
  ∀ (v : Variant) (s : State), s.cfg.legal →
    (s.cfg.msgCap < s.mlen.toNat → exec v.hash s = .next (s.raised .framing)) ∧
    (s.mlen.toNat ≤ s.cfg.msgCap → s.cfg.pbufCap < paddedLength v s.mlen.toNat ∨ s.cfg.doutCap < outputLength v s →
      exec v.hash s = .next (s.raised .cap)) ∧
    (Admits v s → ∃ t p, exec v.hash s = .next t ∧ exec v.pad s = .next p ∧
      t.plen.toNat = paddedLength v s.mlen.toNat ∧ t.bidx.toNat = paddedLength v s.mlen.toNat / blockBytes v ∧
      t.dlen.toNat = outputLength v s ∧
      (∀ a, a < paddedLength v s.mlen.toNat → t.peek .pbuf a = p.peek .pbuf a) ∧
      Frame s t (fun r => r = .plen ∨ r = .bidx ∨ r = .dlen ∨ stateFile v r)
        (fun sp a => bytesBelow .pbuf (paddedLength v s.mlen.toNat) sp a ∨ bytesBelow .dout (outputLength v s) sp a))

/-- R262, R335: HASH.v leaves what the step sequence leaves: INIT.v, PAD.v, the block command P / bs times, and the
output command, each issued by the host, none of them faulting. -/
def Obligations.HashIsTheStepSequence : Prop :=
  ∀ (v : Variant) (s : State) (rest : List HostOp), Admits v s → s.faulted = false →
    ∃ t, exec v.hash s = .next t ∧ t.status = s.status ∧
      Host.Core.run core (paddedLength v s.mlen.toNat / blockBytes v + 3)
        (withOps s (stepSequence v (paddedLength v s.mlen.toNat / blockBytes v) ++ rest)) = .next (withOps t rest) ∧
      Host.Core.run core 1 (withOps s (command v.hash :: rest)) = .next (withOps t rest)

/-- R335 (a): INIT.v and PAD.v may come in either order. -/
def Obligations.InitAndPadCommute : Prop :=
  ∀ (v : Variant) (s : State) (rest : List HostOp), s.faulted = false → s.mlen.toNat ≤ s.cfg.msgCap →
    paddedLength v s.mlen.toNat ≤ s.cfg.pbufCap →
      ∃ t, Host.Core.run core 2 (withOps s (command v.init :: command v.pad :: rest)) = .next t ∧
        Host.Core.run core 2 (withOps s (command v.pad :: command v.init :: rest)) = .next t

/-- R9, R276 (a): the digest HASH.v leaves is a function of the variant, MLEN, MSG[0..MLEN) and, for SHAKE, OLEN: two
states that agree on those give the same digest, whatever their other registers, memories and capacities. -/
def Obligations.HashIsPure : Prop :=
  ∀ (v : Variant) (s s' : State), Admits v s → Admits v s' → s.mlen = s'.mlen →
    (∀ a, a < s.mlen.toNat → s.peek .msg a = s'.peek .msg a) →
    (v = .shake128 ∨ v = .shake256 → s.olen = s'.olen) →
      ∃ t t', exec v.hash s = .next t ∧ exec v.hash s' = .next t' ∧ t.dlen = t'.dlen ∧
        ∀ a, a < t.dlen.toNat → t.peek .dout a = t'.peek .dout a

/-- R275: HEX writes the text of DOUT[0..DLEN) to XOUT and its length to XLEN, and changes nothing else. The premise
on DLEN "always holds" (R275): it is part of the invariant that every step keeps. -/
def Obligations.HexCommand : Prop :=
  encode .hex = 0x00000015 ∧ ∀ s : State, s.cfg.legal → s.dlen.toNat ≤ s.cfg.doutCap →
    ∃ t, exec .hex s = .next t ∧ t.xlen.toNat = 2 * s.dlen.toNat ∧ TextOf s t s.dlen.toNat ∧
      Frame s t (· = .xlen) (bytesBelow .xout (2 * s.dlen.toNat))

/-- The model's choice (log 6): with DLEN above DOUT_CAP, which R275 says never holds, HEX stops. -/
def Obligations.HexStopsAboveCapacity : Prop :=
  ∀ s : State, s.cfg.doutCap < s.dlen.toNat → exec .hex s = .fault .addressBeyondCapacity

/-- R79, R276 (f): HASHHEX.v leaves in XOUT the text of the digest HASH.v leaves in DOUT. -/
def Obligations.HashhexIsTheTextOfTheDigest : Prop :=
  ∀ (v : Variant) (s : State) (rest : List HostOp), Admits v s → s.faulted = false →
    ∃ t u, exec v.hash s = .next t ∧
      Host.Core.run core 2 (withOps s (hashHex v ++ rest)) = .next (withOps u rest) ∧
      u.xlen.toNat = 2 * t.dlen.toNat ∧ TextOf t u t.dlen.toNat ∧
      Frame t u (· = .xlen) (bytesBelow .xout (2 * t.dlen.toNat))
end

