-- ==== Sys2Proof/Laws/State.lean ====
section
/-! SUPPORT. One lemma per field per named update of State, each true by unfolding the update once, and what each
update writes. -/

namespace Sys2Proof.Machine

variable (s : State)

/-! `setMem`, `writeBytes`: every register, and every memory but the one named. -/

@[simp] theorem setMem_status (sp : Space) (m : Memory) : (s.setMem sp m).status = s.status := by cases sp <;> rfl
@[simp] theorem writeBytes_status (sp : Space) (a : Nat) (bs : List Byte) : (s.writeBytes sp a bs).status = s.status :=
  setMem_status s sp _
@[simp] theorem setMem_mlen (sp : Space) (m : Memory) : (s.setMem sp m).mlen = s.mlen := by cases sp <;> rfl
@[simp] theorem writeBytes_mlen (sp : Space) (a : Nat) (bs : List Byte) : (s.writeBytes sp a bs).mlen = s.mlen :=
  setMem_mlen s sp _
@[simp] theorem setMem_plen (sp : Space) (m : Memory) : (s.setMem sp m).plen = s.plen := by cases sp <;> rfl
@[simp] theorem writeBytes_plen (sp : Space) (a : Nat) (bs : List Byte) : (s.writeBytes sp a bs).plen = s.plen :=
  setMem_plen s sp _
@[simp] theorem setMem_olen (sp : Space) (m : Memory) : (s.setMem sp m).olen = s.olen := by cases sp <;> rfl
@[simp] theorem writeBytes_olen (sp : Space) (a : Nat) (bs : List Byte) : (s.writeBytes sp a bs).olen = s.olen :=
  setMem_olen s sp _
@[simp] theorem setMem_dlen (sp : Space) (m : Memory) : (s.setMem sp m).dlen = s.dlen := by cases sp <;> rfl
@[simp] theorem writeBytes_dlen (sp : Space) (a : Nat) (bs : List Byte) : (s.writeBytes sp a bs).dlen = s.dlen :=
  setMem_dlen s sp _
@[simp] theorem setMem_xlen (sp : Space) (m : Memory) : (s.setMem sp m).xlen = s.xlen := by cases sp <;> rfl
@[simp] theorem writeBytes_xlen (sp : Space) (a : Nat) (bs : List Byte) : (s.writeBytes sp a bs).xlen = s.xlen :=
  setMem_xlen s sp _
@[simp] theorem setMem_bidx (sp : Space) (m : Memory) : (s.setMem sp m).bidx = s.bidx := by cases sp <;> rfl
@[simp] theorem writeBytes_bidx (sp : Space) (a : Nat) (bs : List Byte) : (s.writeBytes sp a bs).bidx = s.bidx :=
  setMem_bidx s sp _
@[simp] theorem setMem_opa (sp : Space) (m : Memory) : (s.setMem sp m).opa = s.opa := by cases sp <;> rfl
@[simp] theorem writeBytes_opa (sp : Space) (a : Nat) (bs : List Byte) : (s.writeBytes sp a bs).opa = s.opa :=
  setMem_opa s sp _
@[simp] theorem setMem_opn (sp : Space) (m : Memory) : (s.setMem sp m).opn = s.opn := by cases sp <;> rfl
@[simp] theorem writeBytes_opn (sp : Space) (a : Nat) (bs : List Byte) : (s.writeBytes sp a bs).opn = s.opn :=
  setMem_opn s sp _
@[simp] theorem setMem_res (sp : Space) (m : Memory) : (s.setMem sp m).res = s.res := by cases sp <;> rfl
@[simp] theorem writeBytes_res (sp : Space) (a : Nat) (bs : List Byte) : (s.writeBytes sp a bs).res = s.res :=
  setMem_res s sp _
@[simp] theorem setMem_opb (sp : Space) (m : Memory) : (s.setMem sp m).opb = s.opb := by cases sp <;> rfl
@[simp] theorem writeBytes_opb (sp : Space) (a : Nat) (bs : List Byte) : (s.writeBytes sp a bs).opb = s.opb :=
  setMem_opb s sp _
@[simp] theorem setMem_md5h (sp : Space) (m : Memory) : (s.setMem sp m).md5h = s.md5h := by cases sp <;> rfl
@[simp] theorem writeBytes_md5h (sp : Space) (a : Nat) (bs : List Byte) : (s.writeBytes sp a bs).md5h = s.md5h :=
  setMem_md5h s sp _
@[simp] theorem setMem_sha1h (sp : Space) (m : Memory) : (s.setMem sp m).sha1h = s.sha1h := by cases sp <;> rfl
@[simp] theorem writeBytes_sha1h (sp : Space) (a : Nat) (bs : List Byte) : (s.writeBytes sp a bs).sha1h = s.sha1h :=
  setMem_sha1h s sp _
@[simp] theorem setMem_s32h (sp : Space) (m : Memory) : (s.setMem sp m).s32h = s.s32h := by cases sp <;> rfl
@[simp] theorem writeBytes_s32h (sp : Space) (a : Nat) (bs : List Byte) : (s.writeBytes sp a bs).s32h = s.s32h :=
  setMem_s32h s sp _
@[simp] theorem setMem_s64h (sp : Space) (m : Memory) : (s.setMem sp m).s64h = s.s64h := by cases sp <;> rfl
@[simp] theorem writeBytes_s64h (sp : Space) (a : Nat) (bs : List Byte) : (s.writeBytes sp a bs).s64h = s.s64h :=
  setMem_s64h s sp _
@[simp] theorem setMem_ka (sp : Space) (m : Memory) : (s.setMem sp m).ka = s.ka := by cases sp <;> rfl
@[simp] theorem writeBytes_ka (sp : Space) (a : Nat) (bs : List Byte) : (s.writeBytes sp a bs).ka = s.ka :=
  setMem_ka s sp _
@[simp] theorem setMem_msg_msg (m : Memory) : (s.setMem .msg m).msg = m := rfl
@[simp] theorem writeBytes_msg_msg (a : Nat) (bs : List Byte) :
    (s.writeBytes .msg a bs).msg = s.msg.writeBytes a bs := rfl
@[simp] theorem setMem_pbuf_msg (m : Memory) : (s.setMem .pbuf m).msg = s.msg := rfl
@[simp] theorem writeBytes_pbuf_msg (a : Nat) (bs : List Byte) : (s.writeBytes .pbuf a bs).msg = s.msg := rfl
@[simp] theorem setMem_dout_msg (m : Memory) : (s.setMem .dout m).msg = s.msg := rfl
@[simp] theorem writeBytes_dout_msg (a : Nat) (bs : List Byte) : (s.writeBytes .dout a bs).msg = s.msg := rfl
@[simp] theorem setMem_xout_msg (m : Memory) : (s.setMem .xout m).msg = s.msg := rfl
@[simp] theorem writeBytes_xout_msg (a : Nat) (bs : List Byte) : (s.writeBytes .xout a bs).msg = s.msg := rfl
@[simp] theorem setMem_msg_pbuf (m : Memory) : (s.setMem .msg m).pbuf = s.pbuf := rfl
@[simp] theorem writeBytes_msg_pbuf (a : Nat) (bs : List Byte) : (s.writeBytes .msg a bs).pbuf = s.pbuf := rfl
@[simp] theorem setMem_pbuf_pbuf (m : Memory) : (s.setMem .pbuf m).pbuf = m := rfl
@[simp] theorem writeBytes_pbuf_pbuf (a : Nat) (bs : List Byte) :
    (s.writeBytes .pbuf a bs).pbuf = s.pbuf.writeBytes a bs := rfl
@[simp] theorem setMem_dout_pbuf (m : Memory) : (s.setMem .dout m).pbuf = s.pbuf := rfl
@[simp] theorem writeBytes_dout_pbuf (a : Nat) (bs : List Byte) : (s.writeBytes .dout a bs).pbuf = s.pbuf := rfl
@[simp] theorem setMem_xout_pbuf (m : Memory) : (s.setMem .xout m).pbuf = s.pbuf := rfl
@[simp] theorem writeBytes_xout_pbuf (a : Nat) (bs : List Byte) : (s.writeBytes .xout a bs).pbuf = s.pbuf := rfl
@[simp] theorem setMem_msg_dout (m : Memory) : (s.setMem .msg m).dout = s.dout := rfl
@[simp] theorem writeBytes_msg_dout (a : Nat) (bs : List Byte) : (s.writeBytes .msg a bs).dout = s.dout := rfl
@[simp] theorem setMem_pbuf_dout (m : Memory) : (s.setMem .pbuf m).dout = s.dout := rfl
@[simp] theorem writeBytes_pbuf_dout (a : Nat) (bs : List Byte) : (s.writeBytes .pbuf a bs).dout = s.dout := rfl
@[simp] theorem setMem_dout_dout (m : Memory) : (s.setMem .dout m).dout = m := rfl
@[simp] theorem writeBytes_dout_dout (a : Nat) (bs : List Byte) :
    (s.writeBytes .dout a bs).dout = s.dout.writeBytes a bs := rfl
@[simp] theorem setMem_xout_dout (m : Memory) : (s.setMem .xout m).dout = s.dout := rfl
@[simp] theorem writeBytes_xout_dout (a : Nat) (bs : List Byte) : (s.writeBytes .xout a bs).dout = s.dout := rfl
@[simp] theorem setMem_msg_xout (m : Memory) : (s.setMem .msg m).xout = s.xout := rfl
@[simp] theorem writeBytes_msg_xout (a : Nat) (bs : List Byte) : (s.writeBytes .msg a bs).xout = s.xout := rfl
@[simp] theorem setMem_pbuf_xout (m : Memory) : (s.setMem .pbuf m).xout = s.xout := rfl
@[simp] theorem writeBytes_pbuf_xout (a : Nat) (bs : List Byte) : (s.writeBytes .pbuf a bs).xout = s.xout := rfl
@[simp] theorem setMem_dout_xout (m : Memory) : (s.setMem .dout m).xout = s.xout := rfl
@[simp] theorem writeBytes_dout_xout (a : Nat) (bs : List Byte) : (s.writeBytes .dout a bs).xout = s.xout := rfl
@[simp] theorem setMem_xout_xout (m : Memory) : (s.setMem .xout m).xout = m := rfl
@[simp] theorem writeBytes_xout_xout (a : Nat) (bs : List Byte) :
    (s.writeBytes .xout a bs).xout = s.xout.writeBytes a bs := rfl
@[simp] theorem setMem_cfg (sp : Space) (m : Memory) : (s.setMem sp m).cfg = s.cfg := by cases sp <;> rfl
@[simp] theorem writeBytes_cfg (sp : Space) (a : Nat) (bs : List Byte) : (s.writeBytes sp a bs).cfg = s.cfg :=
  setMem_cfg s sp _
@[simp] theorem setMem_epoch (sp : Space) (m : Memory) : (s.setMem sp m).epoch = s.epoch := by cases sp <;> rfl
@[simp] theorem writeBytes_epoch (sp : Space) (a : Nat) (bs : List Byte) : (s.writeBytes sp a bs).epoch = s.epoch :=
  setMem_epoch s sp _
@[simp] theorem setMem_pending (sp : Space) (m : Memory) : (s.setMem sp m).pending = s.pending := by cases sp <;> rfl
@[simp] theorem writeBytes_pending (sp : Space) (a : Nat) (bs : List Byte) : (s.writeBytes sp a bs).pending = s.pending :=
  setMem_pending s sp _
@[simp] theorem setMem_reads (sp : Space) (m : Memory) : (s.setMem sp m).reads = s.reads := by cases sp <;> rfl
@[simp] theorem writeBytes_reads (sp : Space) (a : Nat) (bs : List Byte) : (s.writeBytes sp a bs).reads = s.reads :=
  setMem_reads s sp _

/-! `storePadded`, `storeDigest`, `nextBlock`, `setRes`, `hexOut`, `hostReset`. -/

@[simp] theorem storePadded_status (P : Nat) (p : List Byte) : (s.storePadded P p).status = s.status := rfl
@[simp] theorem storePadded_mlen (P : Nat) (p : List Byte) : (s.storePadded P p).mlen = s.mlen := rfl
@[simp] theorem storePadded_plen (P : Nat) (p : List Byte) : (s.storePadded P p).plen = BitVec.ofNat 64 P := rfl
@[simp] theorem storePadded_olen (P : Nat) (p : List Byte) : (s.storePadded P p).olen = s.olen := rfl
@[simp] theorem storePadded_dlen (P : Nat) (p : List Byte) : (s.storePadded P p).dlen = s.dlen := rfl
@[simp] theorem storePadded_xlen (P : Nat) (p : List Byte) : (s.storePadded P p).xlen = s.xlen := rfl
@[simp] theorem storePadded_bidx (P : Nat) (p : List Byte) : (s.storePadded P p).bidx = s.bidx := rfl
@[simp] theorem storePadded_opa (P : Nat) (p : List Byte) : (s.storePadded P p).opa = s.opa := rfl
@[simp] theorem storePadded_opn (P : Nat) (p : List Byte) : (s.storePadded P p).opn = s.opn := rfl
@[simp] theorem storePadded_res (P : Nat) (p : List Byte) : (s.storePadded P p).res = s.res := rfl
@[simp] theorem storePadded_opb (P : Nat) (p : List Byte) : (s.storePadded P p).opb = s.opb := rfl
@[simp] theorem storePadded_md5h (P : Nat) (p : List Byte) : (s.storePadded P p).md5h = s.md5h := rfl
@[simp] theorem storePadded_sha1h (P : Nat) (p : List Byte) : (s.storePadded P p).sha1h = s.sha1h := rfl
@[simp] theorem storePadded_s32h (P : Nat) (p : List Byte) : (s.storePadded P p).s32h = s.s32h := rfl
@[simp] theorem storePadded_s64h (P : Nat) (p : List Byte) : (s.storePadded P p).s64h = s.s64h := rfl
@[simp] theorem storePadded_ka (P : Nat) (p : List Byte) : (s.storePadded P p).ka = s.ka := rfl
@[simp] theorem storePadded_msg (P : Nat) (p : List Byte) : (s.storePadded P p).msg = s.msg := rfl
@[simp] theorem storePadded_pbuf (P : Nat) (p : List Byte) : (s.storePadded P p).pbuf = s.pbuf.writeBytes 0 p := rfl
@[simp] theorem storePadded_dout (P : Nat) (p : List Byte) : (s.storePadded P p).dout = s.dout := rfl
@[simp] theorem storePadded_xout (P : Nat) (p : List Byte) : (s.storePadded P p).xout = s.xout := rfl
@[simp] theorem storePadded_cfg (P : Nat) (p : List Byte) : (s.storePadded P p).cfg = s.cfg := rfl
@[simp] theorem storePadded_epoch (P : Nat) (p : List Byte) : (s.storePadded P p).epoch = s.epoch := rfl
@[simp] theorem storePadded_pending (P : Nat) (p : List Byte) : (s.storePadded P p).pending = s.pending := rfl
@[simp] theorem storePadded_reads (P : Nat) (p : List Byte) : (s.storePadded P p).reads = s.reads := rfl
@[simp] theorem storeDigest_status (L : Nat) (d : List Byte) : (s.storeDigest L d).status = s.status := rfl
@[simp] theorem storeDigest_mlen (L : Nat) (d : List Byte) : (s.storeDigest L d).mlen = s.mlen := rfl
@[simp] theorem storeDigest_plen (L : Nat) (d : List Byte) : (s.storeDigest L d).plen = s.plen := rfl
@[simp] theorem storeDigest_olen (L : Nat) (d : List Byte) : (s.storeDigest L d).olen = s.olen := rfl
@[simp] theorem storeDigest_dlen (L : Nat) (d : List Byte) : (s.storeDigest L d).dlen = BitVec.ofNat 64 L := rfl
@[simp] theorem storeDigest_xlen (L : Nat) (d : List Byte) : (s.storeDigest L d).xlen = s.xlen := rfl
@[simp] theorem storeDigest_bidx (L : Nat) (d : List Byte) : (s.storeDigest L d).bidx = s.bidx := rfl
@[simp] theorem storeDigest_opa (L : Nat) (d : List Byte) : (s.storeDigest L d).opa = s.opa := rfl
@[simp] theorem storeDigest_opn (L : Nat) (d : List Byte) : (s.storeDigest L d).opn = s.opn := rfl
@[simp] theorem storeDigest_res (L : Nat) (d : List Byte) : (s.storeDigest L d).res = s.res := rfl
@[simp] theorem storeDigest_opb (L : Nat) (d : List Byte) : (s.storeDigest L d).opb = s.opb := rfl
@[simp] theorem storeDigest_md5h (L : Nat) (d : List Byte) : (s.storeDigest L d).md5h = s.md5h := rfl
@[simp] theorem storeDigest_sha1h (L : Nat) (d : List Byte) : (s.storeDigest L d).sha1h = s.sha1h := rfl
@[simp] theorem storeDigest_s32h (L : Nat) (d : List Byte) : (s.storeDigest L d).s32h = s.s32h := rfl
@[simp] theorem storeDigest_s64h (L : Nat) (d : List Byte) : (s.storeDigest L d).s64h = s.s64h := rfl
@[simp] theorem storeDigest_ka (L : Nat) (d : List Byte) : (s.storeDigest L d).ka = s.ka := rfl
@[simp] theorem storeDigest_msg (L : Nat) (d : List Byte) : (s.storeDigest L d).msg = s.msg := rfl
@[simp] theorem storeDigest_pbuf (L : Nat) (d : List Byte) : (s.storeDigest L d).pbuf = s.pbuf := rfl
@[simp] theorem storeDigest_dout (L : Nat) (d : List Byte) : (s.storeDigest L d).dout = s.dout.writeBytes 0 d := rfl
@[simp] theorem storeDigest_xout (L : Nat) (d : List Byte) : (s.storeDigest L d).xout = s.xout := rfl
@[simp] theorem storeDigest_cfg (L : Nat) (d : List Byte) : (s.storeDigest L d).cfg = s.cfg := rfl
@[simp] theorem storeDigest_epoch (L : Nat) (d : List Byte) : (s.storeDigest L d).epoch = s.epoch := rfl
@[simp] theorem storeDigest_pending (L : Nat) (d : List Byte) : (s.storeDigest L d).pending = s.pending := rfl
@[simp] theorem storeDigest_reads (L : Nat) (d : List Byte) : (s.storeDigest L d).reads = s.reads := rfl
@[simp] theorem nextBlock_status : s.nextBlock.status = s.status := rfl
@[simp] theorem nextBlock_mlen : s.nextBlock.mlen = s.mlen := rfl
@[simp] theorem nextBlock_plen : s.nextBlock.plen = s.plen := rfl
@[simp] theorem nextBlock_olen : s.nextBlock.olen = s.olen := rfl
@[simp] theorem nextBlock_dlen : s.nextBlock.dlen = s.dlen := rfl
@[simp] theorem nextBlock_xlen : s.nextBlock.xlen = s.xlen := rfl
@[simp] theorem nextBlock_bidx : s.nextBlock.bidx = s.bidx + 1 := rfl
@[simp] theorem nextBlock_opa : s.nextBlock.opa = s.opa := rfl
@[simp] theorem nextBlock_opn : s.nextBlock.opn = s.opn := rfl
@[simp] theorem nextBlock_res : s.nextBlock.res = s.res := rfl
@[simp] theorem nextBlock_opb : s.nextBlock.opb = s.opb := rfl
@[simp] theorem nextBlock_md5h : s.nextBlock.md5h = s.md5h := rfl
@[simp] theorem nextBlock_sha1h : s.nextBlock.sha1h = s.sha1h := rfl
@[simp] theorem nextBlock_s32h : s.nextBlock.s32h = s.s32h := rfl
@[simp] theorem nextBlock_s64h : s.nextBlock.s64h = s.s64h := rfl
@[simp] theorem nextBlock_ka : s.nextBlock.ka = s.ka := rfl
@[simp] theorem nextBlock_msg : s.nextBlock.msg = s.msg := rfl
@[simp] theorem nextBlock_pbuf : s.nextBlock.pbuf = s.pbuf := rfl
@[simp] theorem nextBlock_dout : s.nextBlock.dout = s.dout := rfl
@[simp] theorem nextBlock_xout : s.nextBlock.xout = s.xout := rfl
@[simp] theorem nextBlock_cfg : s.nextBlock.cfg = s.cfg := rfl
@[simp] theorem nextBlock_epoch : s.nextBlock.epoch = s.epoch := rfl
@[simp] theorem nextBlock_pending : s.nextBlock.pending = s.pending := rfl
@[simp] theorem nextBlock_reads : s.nextBlock.reads = s.reads := rfl
@[simp] theorem setRes_status {w : Nat} (x : BitVec w) : (s.setRes x).status = s.status := rfl
@[simp] theorem setRes_mlen {w : Nat} (x : BitVec w) : (s.setRes x).mlen = s.mlen := rfl
@[simp] theorem setRes_plen {w : Nat} (x : BitVec w) : (s.setRes x).plen = s.plen := rfl
@[simp] theorem setRes_olen {w : Nat} (x : BitVec w) : (s.setRes x).olen = s.olen := rfl
@[simp] theorem setRes_dlen {w : Nat} (x : BitVec w) : (s.setRes x).dlen = s.dlen := rfl
@[simp] theorem setRes_xlen {w : Nat} (x : BitVec w) : (s.setRes x).xlen = s.xlen := rfl
@[simp] theorem setRes_bidx {w : Nat} (x : BitVec w) : (s.setRes x).bidx = s.bidx := rfl
@[simp] theorem setRes_opa {w : Nat} (x : BitVec w) : (s.setRes x).opa = s.opa := rfl
@[simp] theorem setRes_opn {w : Nat} (x : BitVec w) : (s.setRes x).opn = s.opn := rfl
@[simp] theorem setRes_res {w : Nat} (x : BitVec w) : (s.setRes x).res = x.setWidth 64 := rfl
@[simp] theorem setRes_opb {w : Nat} (x : BitVec w) : (s.setRes x).opb = s.opb := rfl
@[simp] theorem setRes_md5h {w : Nat} (x : BitVec w) : (s.setRes x).md5h = s.md5h := rfl
@[simp] theorem setRes_sha1h {w : Nat} (x : BitVec w) : (s.setRes x).sha1h = s.sha1h := rfl
@[simp] theorem setRes_s32h {w : Nat} (x : BitVec w) : (s.setRes x).s32h = s.s32h := rfl
@[simp] theorem setRes_s64h {w : Nat} (x : BitVec w) : (s.setRes x).s64h = s.s64h := rfl
@[simp] theorem setRes_ka {w : Nat} (x : BitVec w) : (s.setRes x).ka = s.ka := rfl
@[simp] theorem setRes_msg {w : Nat} (x : BitVec w) : (s.setRes x).msg = s.msg := rfl
@[simp] theorem setRes_pbuf {w : Nat} (x : BitVec w) : (s.setRes x).pbuf = s.pbuf := rfl
@[simp] theorem setRes_dout {w : Nat} (x : BitVec w) : (s.setRes x).dout = s.dout := rfl
@[simp] theorem setRes_xout {w : Nat} (x : BitVec w) : (s.setRes x).xout = s.xout := rfl
@[simp] theorem setRes_cfg {w : Nat} (x : BitVec w) : (s.setRes x).cfg = s.cfg := rfl
@[simp] theorem setRes_epoch {w : Nat} (x : BitVec w) : (s.setRes x).epoch = s.epoch := rfl
@[simp] theorem setRes_pending {w : Nat} (x : BitVec w) : (s.setRes x).pending = s.pending := rfl
@[simp] theorem setRes_reads {w : Nat} (x : BitVec w) : (s.setRes x).reads = s.reads := rfl
@[simp] theorem hexOut_status : s.hexOut.status = s.status := rfl
@[simp] theorem hexOut_mlen : s.hexOut.mlen = s.mlen := rfl
@[simp] theorem hexOut_plen : s.hexOut.plen = s.plen := rfl
@[simp] theorem hexOut_olen : s.hexOut.olen = s.olen := rfl
@[simp] theorem hexOut_dlen : s.hexOut.dlen = s.dlen := rfl
@[simp] theorem hexOut_xlen : s.hexOut.xlen = BitVec.ofNat 64 (2 * s.dlen.toNat) := rfl
@[simp] theorem hexOut_bidx : s.hexOut.bidx = s.bidx := rfl
@[simp] theorem hexOut_opa : s.hexOut.opa = s.opa := rfl
@[simp] theorem hexOut_opn : s.hexOut.opn = s.opn := rfl
@[simp] theorem hexOut_res : s.hexOut.res = s.res := rfl
@[simp] theorem hexOut_opb : s.hexOut.opb = s.opb := rfl
@[simp] theorem hexOut_md5h : s.hexOut.md5h = s.md5h := rfl
@[simp] theorem hexOut_sha1h : s.hexOut.sha1h = s.sha1h := rfl
@[simp] theorem hexOut_s32h : s.hexOut.s32h = s.s32h := rfl
@[simp] theorem hexOut_s64h : s.hexOut.s64h = s.s64h := rfl
@[simp] theorem hexOut_ka : s.hexOut.ka = s.ka := rfl
@[simp] theorem hexOut_msg : s.hexOut.msg = s.msg := rfl
@[simp] theorem hexOut_pbuf : s.hexOut.pbuf = s.pbuf := rfl
@[simp] theorem hexOut_dout : s.hexOut.dout = s.dout := rfl
@[simp] theorem hexOut_xout : s.hexOut.xout = s.xout.writeBytes 0 (hexText (s.readBytes .dout 0 s.dlen.toNat)) := rfl
@[simp] theorem hexOut_cfg : s.hexOut.cfg = s.cfg := rfl
@[simp] theorem hexOut_epoch : s.hexOut.epoch = s.epoch := rfl
@[simp] theorem hexOut_pending : s.hexOut.pending = s.pending := rfl
@[simp] theorem hexOut_reads : s.hexOut.reads = s.reads := rfl

/-! `mem` of a state, by space. -/

@[simp] theorem mem_msg : s.mem .msg = s.msg := rfl
@[simp] theorem mem_pbuf : s.mem .pbuf = s.pbuf := rfl
@[simp] theorem mem_dout : s.mem .dout = s.dout := rfl
@[simp] theorem mem_xout : s.mem .xout = s.xout := rfl

theorem mem_setMem_same (sp : Space) (m : Memory) : (s.setMem sp m).mem sp = m := by cases sp <;> rfl

theorem mem_setMem_other {sp sp' : Space} (m : Memory) (h : sp' ≠ sp) : (s.setMem sp m).mem sp' = s.mem sp' := by
  cases sp <;> cases sp' <;> first | exact absurd rfl h | rfl

theorem mem_writeBytes_same (sp : Space) (a : Nat) (bs : List Byte) :
    (s.writeBytes sp a bs).mem sp = (s.mem sp).writeBytes a bs := mem_setMem_same s sp _

theorem mem_writeBytes_other {sp sp' : Space} (a : Nat) (bs : List Byte) (h : sp' ≠ sp) :
    (s.writeBytes sp a bs).mem sp' = s.mem sp' := mem_setMem_other s _ h

end Sys2Proof.Machine
end

