-- ==== Sys2Proof/Laws/Memory.lean ====
section
/-! SUPPORT. The laws of memory: a read after a write, the canonical form kept by every operation, and what a run of
bytes read or written holds. -/

namespace Sys2Proof.Machine

namespace MemoryLaws

theorem get?_append (m m' : Memory) (k : Nat) :
    Memory.get? (m ++ m') k = (Memory.get? m k).or (Memory.get? m' k) := by
  induction m with
  | nil => simp [Memory.get?]
  | cons x m ih =>
    obtain ⟨j, b⟩ := x
    simp only [List.cons_append, Memory.get?]
    split <;> simp [ih]

theorem get?_filter (m : Memory) (p : Nat → Bool) (k : Nat) :
    Memory.get? (m.filter fun x => p x.1) k = if p k then Memory.get? m k else none := by
  induction m with
  | nil => simp [Memory.get?]
  | cons x m ih =>
    obtain ⟨j, b⟩ := x
    by_cases hj : j = k
    · subst hj
      by_cases hp : p j <;> simp [Memory.get?, hp, ih]
    · by_cases hp : p j <;> simp [Memory.get?, hp, hj, ih]

theorem get?_cellsAt (a : Nat) (bs : List Byte) (k : Nat) :
    Memory.get? (cellsAt a bs) k = if a ≤ k then bs[k - a]? else none := by
  induction bs generalizing a with
  | nil => simp [cellsAt, Memory.get?]
  | cons b bs ih =>
    simp only [cellsAt, Memory.get?, ih]
    by_cases hk : a = k
    · subst hk
      simp
    · by_cases hak : a ≤ k
      · have h1 : a + 1 ≤ k := by omega
        have h2 : k - a = k - (a + 1) + 1 := by omega
        simp [hk, hak, h1, h2]
      · have h1 : ¬a + 1 ≤ k := by omega
        simp [hk, hak, h1]

/-- A read after a write: inside the run, the byte written; outside it, what was there before. -/
theorem get?_writeBytes (m : Memory) (a : Nat) (bs : List Byte) (k : Nat) :
    (m.writeBytes a bs).get? k = if a ≤ k ∧ k < a + bs.length then bs[k - a]? else m.get? k := by
  unfold Memory.writeBytes
  rw [get?_append, get?_append, get?_filter m (fun j => decide (j < a)), get?_cellsAt,
    get?_filter m (fun j => decide (a + bs.length ≤ j))]
  by_cases h1 : a ≤ k
  · by_cases h2 : k < a + bs.length
    · have h3 : k - a < bs.length := by omega
      have h4 : ¬k < a := by omega
      simp [h1, h2, h3, h4]
    · have h3 : bs.length ≤ k - a := by omega
      have h4 : ¬k < a := by omega
      have h5 : a + bs.length ≤ k := by omega
      simp [h1, h2, h3, h4, h5]
  · have h4 : k < a := by omega
    have h5 : ¬a + bs.length ≤ k := by omega
    simp [h1, h4, h5]

theorem mem_cellsAt {a : Nat} {bs : List Byte} {x : Host.Cell} (h : x ∈ cellsAt a bs) :
    a ≤ x.1 ∧ x.1 < a + bs.length := by
  induction bs generalizing a with
  | nil => simp [cellsAt] at h
  | cons b bs ih =>
    simp only [cellsAt, List.mem_cons] at h
    rcases h with h | h
    · subst h
      simp
    · have := ih h
      simp only [List.length_cons]
      omega

theorem cellsAt_wf (a : Nat) (bs : List Byte) : (cellsAt a bs).Pairwise (fun x y => x.1 < y.1) := by
  induction bs generalizing a with
  | nil => exact List.Pairwise.nil
  | cons b bs ih =>
    refine List.Pairwise.cons (fun x hx => ?_) (ih (a + 1))
    have := (mem_cellsAt hx).1
    show a < x.1
    omega

/-- Writing keeps the canonical form. -/
theorem writeBytes_wf {m : Memory} (h : m.wf) (a : Nat) (bs : List Byte) : (m.writeBytes a bs).wf := by
  unfold Memory.writeBytes
  refine List.pairwise_append.2 ⟨List.pairwise_append.2 ⟨h.filter _, cellsAt_wf a bs, ?_⟩, h.filter _, ?_⟩
  · intro x hx y hy
    have h1 := (List.mem_filter.1 hx).2
    have h2 := (mem_cellsAt hy).1
    simp only [decide_eq_true_eq] at h1
    omega
  · intro x hx y hy
    have h2 := (List.mem_filter.1 hy).2
    simp only [decide_eq_true_eq] at h2
    rcases List.mem_append.1 hx with h1 | h1
    · have h3 := (List.mem_filter.1 h1).2
      simp only [decide_eq_true_eq] at h3
      omega
    · have h3 := (mem_cellsAt h1).2
      omega

/-- Writing lists no address outside the run that was not listed before. -/
theorem mem_writeBytes {m : Memory} {a : Nat} {bs : List Byte} {x : Host.Cell} (h : x ∈ m.writeBytes a bs) :
    x ∈ m ∨ (a ≤ x.1 ∧ x.1 < a + bs.length) := by
  unfold Memory.writeBytes at h
  rcases List.mem_append.1 h with h | h
  · rcases List.mem_append.1 h with h | h
    · exact .inl (List.mem_filter.1 h).1
    · exact .inr (mem_cellsAt h)
  · exact .inl (List.mem_filter.1 h).1

/-- The reset memory is canonical. -/
theorem nil_wf : Memory.wf [] := List.Pairwise.nil

end MemoryLaws

open MemoryLaws

variable (s : State)

/-- A read of one byte after a write to its own memory. -/
theorem peek_writeBytes (sp : Space) (a : Nat) (bs : List Byte) (k : Nat) :
    (s.writeBytes sp a bs).peek sp k = if h : a ≤ k ∧ k < a + bs.length then bs[k - a]'(by omega) else s.peek sp k := by
  unfold State.peek
  rw [mem_writeBytes_same, get?_writeBytes, writeBytes_epoch]
  by_cases h : a ≤ k ∧ k < a + bs.length
  · rw [if_pos h, dif_pos h, List.getElem?_eq_getElem (by omega)]
  · rw [if_neg h, dif_neg h]

/-- A write leaves every byte of the other memories alone. -/
theorem peek_writeBytes_other {sp sp' : Space} (a : Nat) (bs : List Byte) (k : Nat) (h : sp' ≠ sp) :
    (s.writeBytes sp a bs).peek sp' k = s.peek sp' k := by
  unfold State.peek
  rw [mem_writeBytes_other s a bs h, writeBytes_epoch]

/-- What one byte reads depends only on its own memory and on the epoch. -/
theorem peek_congr {s t : State} {sp : Space} (hm : t.mem sp = s.mem sp) (he : t.epoch = s.epoch) (k : Nat) :
    t.peek sp k = s.peek sp k := by
  unfold State.peek
  rw [hm, he]

@[simp] theorem readBytes_length (sp : Space) (a n : Nat) : (s.readBytes sp a n).length = n := by
  simp [State.readBytes]

@[simp] theorem readBytes_getElem (sp : Space) (a n i : Nat) (h : i < (s.readBytes sp a n).length) :
    (s.readBytes sp a n)[i] = s.peek sp (a + i) := by
  simp [State.readBytes]

/-- Two runs of bytes are equal when each byte is. -/
theorem readBytes_congr {s t : State} {sp : Space} {a n : Nat} (h : ∀ i, i < n → t.peek sp (a + i) = s.peek sp (a + i)) :
    t.readBytes sp a n = s.readBytes sp a n := by
  unfold State.readBytes
  exact List.map_congr_left fun i hi => h i (List.mem_range.1 hi)

@[simp] theorem message_length : s.message.length = s.mlen.toNat := readBytes_length s _ _ _

@[simp] theorem block_length (bs : Nat) : (s.block bs).length = bs := readBytes_length s _ _ _

/-- A written run is listed. -/
theorem written_writeBytes (m : Memory) (bs : List Byte) {k : Nat} (h : k < bs.length) :
    ((m.writeBytes 0 bs).get? k).isSome := by
  rw [get?_writeBytes, if_pos ⟨Nat.zero_le k, by omega⟩, Nat.sub_zero, List.getElem?_eq_getElem h]
  rfl

/-- A listed address stays listed. -/
theorem isSome_get?_writeBytes {m : Memory} {k : Nat} (h : (m.get? k).isSome) (a : Nat) (bs : List Byte) :
    ((m.writeBytes a bs).get? k).isSome := by
  rw [get?_writeBytes]
  split
  · rw [List.getElem?_eq_getElem (by omega)]
    rfl
  · exact h

end Sys2Proof.Machine
end

