-- ==== Sys2Proof/Laws/Bytes.lean ====
section
/-! SUPPORT. Byte strings: their lengths and their entries, for serialised words, padded messages, digests, squeezed
output and hexadecimal text; the variant table's arithmetic. -/

namespace Sys2Proof

/-- Every block has at least one byte. -/
theorem Variant.blockSize_pos (v : Variant) : 0 < v.blockSize := by cases v <;> decide

/-- The padded length is a whole number of blocks. -/
theorem Variant.paddedLen_blocks (v : Variant) (n : Nat) :
    v.paddedLen n = v.blockSize * (v.paddedLen n / v.blockSize) := by
  unfold Variant.paddedLen
  rw [Nat.mul_div_cancel_left _ v.blockSize_pos]

/-- The message and the length field fit in the padded length, with a byte to spare. -/
theorem Variant.lt_paddedLen (v : Variant) (n : Nat) : n + v.lenField < v.paddedLen n :=
  Nat.lt_mul_div_succ _ v.blockSize_pos

/-- The padded length is the least whole number of blocks that is long enough. -/
theorem Variant.paddedLen_le (v : Variant) (n : Nat) : v.paddedLen n ≤ n + v.lenField + v.blockSize := by
  have := Nat.mul_div_le (n + v.lenField) v.blockSize
  unfold Variant.paddedLen
  rw [Nat.mul_add, Nat.mul_one]
  omega

end Sys2Proof

namespace Sys2Proof.Machine

@[simp] theorem toBe_length {w : Nat} (x : BitVec w) : (toBe x).length = w / 8 := by simp [toBe]

@[simp] theorem toLe_length {w : Nat} (x : BitVec w) : (toLe x).length = w / 8 := by simp [toLe]

/-- Byte `i` of a big-endian word (R104). -/
theorem toBe_getElem {w : Nat} (x : BitVec w) (i : Nat) (h : i < (toBe x).length) :
    (toBe x)[i] = BitVec.ofNat 8 (x.toNat / 2 ^ (w - 8 - 8 * i)) := by simp [toBe]

/-- Byte `i` of a little-endian word (R105). -/
theorem toLe_getElem {w : Nat} (x : BitVec w) (i : Nat) (h : i < (toLe x).length) :
    (toLe x)[i] = BitVec.ofNat 8 (x.toNat / 2 ^ (8 * i)) := by simp [toLe]

/-- A list of words each serialised into `n` bytes has `n` times its length in bytes. -/
theorem flatMap_length {w n : Nat} (f : BitVec w → List Byte) (hf : ∀ x, (f x).length = n) (l : List (BitVec w)) :
    (l.flatMap f).length = n * l.length := by
  induction l with
  | nil => simp
  | cons x l ih => simp [hf, ih, Nat.mul_add, Nat.add_comm]

/-- Byte `n * k + j` of words serialised into `n` bytes each is byte `j` of word `k`. -/
theorem flatMap_getElem? {w n : Nat} (f : BitVec w → List Byte) (hf : ∀ x, (f x).length = n) (l : List (BitVec w))
    (k j : Nat) (hk : k < l.length) (hj : j < n) : (l.flatMap f)[n * k + j]? = (f l[k])[j]? := by
  induction l generalizing k with
  | nil => simp at hk
  | cons x l ih =>
    cases k with
    | zero => simp [List.getElem?_append_left, hf, hj]
    | succ k =>
      have h : n * (k + 1) + j = n + (n * k + j) := by rw [Nat.mul_succ]; omega
      have hl : (f x).length ≤ n + (n * k + j) := by rw [hf]; omega
      rw [List.flatMap_cons, h, List.getElem?_append_right hl, hf, Nat.add_sub_cancel_left]
      exact ih k (by simpa using hk)

/-- The padded message is as long as R134, R154 and R177 say. -/
theorem mdPad_length (bs lf : Nat) (hbs : 0 < bs) (field m : List Byte) (hf : field.length = lf) :
    (mdPad bs lf field m).length = bs * ((m.length + lf) / bs + 1) := by
  have h : m.length + lf < bs * ((m.length + lf) / bs + 1) := Nat.lt_mul_div_succ _ hbs
  simp only [mdPad, List.length_append, List.length_replicate, hf, List.length_singleton]
  omega

@[simp] theorem md5Pad_length (m : List Byte) : (md5Pad m).length = Variant.md5.paddedLen m.length :=
  mdPad_length 64 8 (by decide) _ m (by simp)

@[simp] theorem sha1Pad_length (m : List Byte) : (sha1Pad m).length = Variant.sha1.paddedLen m.length :=
  mdPad_length 64 8 (by decide) _ m (by simp)

@[simp] theorem sha2Pad32_length (m : List Byte) : (sha2Pad32 m).length = Variant.sha256.paddedLen m.length :=
  mdPad_length 64 8 (by decide) _ m (by simp)

@[simp] theorem sha2Pad64_length (m : List Byte) : (sha2Pad64 m).length = Variant.sha512.paddedLen m.length :=
  mdPad_length 128 16 (by decide) _ m (by simp)

/-- The padded message of a sponge variant is as long as R221 says. -/
theorem spongePad_length (r : Nat) (hr : 0 < r) (suffix : Byte) (m : List Byte) :
    (spongePad r suffix m).length = r * (m.length / r + 1) := by
  have h : m.length < r * (m.length / r + 1) := Nat.lt_mul_div_succ _ hr
  simp only [spongePad, List.length_modify, List.length_append, List.length_replicate]
  omega

@[simp] theorem stateBytes_length (A : Lanes) : (stateBytes A).length = 200 := by
  unfold stateBytes
  rw [flatMap_length toLe (fun x => toLe_length x), Vector.length_toList]

/-- A squeeze of L bytes gives L bytes (R223). -/
theorem squeezeLoop_length (r : Nat) (hr : 0 < r) (h200 : r ≤ 200) (n : Nat) (A : Lanes) (L : Nat) (hL : L ≤ n + r) :
    (squeezeLoop r n A L).1.length = L := by
  induction n generalizing A L with
  | zero => simp only [squeezeLoop, List.length_take, stateBytes_length]; omega
  | succ n ih =>
    unfold squeezeLoop
    split
    · simp only [List.length_take, stateBytes_length]; omega
    · simp only [List.length_append, List.length_take, stateBytes_length]
      rw [ih _ _ (by omega)]
      omega

theorem spongeSqueeze_length (r : Nat) (hr : 0 < r) (h200 : r ≤ 200) (A : Lanes) (L : Nat) :
    (spongeSqueeze r A L).1.length = L := squeezeLoop_length r hr h200 L A L (by omega)

@[simp] theorem hexText_length (bs : List Byte) : (hexText bs).length = 2 * bs.length := by
  induction bs with
  | nil => rfl
  | cons b bs ih =>
    unfold hexText at *
    simp only [List.flatMap_cons, List.length_append, ih, List.length_cons, List.length_nil]
    omega

end Sys2Proof.Machine
end

