-- ==== Sys2Proof/Laws/Ops.lean ====
section
/-! SUPPORT. What each shared operation can do, said once: raising the Fault, the command skeletons with their tests,
and what any command can do (`exec_cases`). -/

namespace Sys2Proof.Machine

/-- Raising a fault changes STATUS alone. -/
theorem raised_eq (c : FaultCode) (s : State) : s.raised c = { s with status := (s.raised c).status } := by
  unfold State.raised
  split <;> rfl

/-- With no fault recorded, STATUS takes FAULT and the code. -/
theorem raised_of_not_faulted {s : State} (h : s.faulted = false) (c : FaultCode) :
    s.raised c = { s with status := statusWithFault s.status c.code } := by
  unfold State.raised
  rw [h]
  rfl

/-- FAULT is 1 after a fault. -/
theorem raised_faulted (c : FaultCode) (s : State) : (s.raised c).faulted = true := by
  unfold State.raised
  split
  · assumption
  · simp [State.faulted, statusWithFault]

/-- FCODE holds the code of the fault after it. -/
theorem statusWithFault_fcode (st : Word32) (c : BitVec 4) : (statusWithFault st c).extractLsb' 8 4 = c := by
  unfold statusWithFault
  ext i hi
  have hi' : i < 4 := hi
  interval_cases i <;> simp

/-- A PAD command (R134, R249): the tests in order, then the effect. -/
theorem padCommand_cases {v : Variant} {pad : State → State} {s t : State} (h : padCommand v pad s = .next t) :
    (s.cfg.msgCap < s.mlen.toNat ∧ t = s.raised .framing) ∨
    (s.mlen.toNat ≤ s.cfg.msgCap ∧ s.cfg.pbufCap < v.paddedLen s.mlen.toNat ∧ t = s.raised .cap) ∨
    (s.mlen.toNat ≤ s.cfg.msgCap ∧ v.paddedLen s.mlen.toNat ≤ s.cfg.pbufCap ∧ t = pad s) := by
  unfold padCommand raise at h
  split at h
  · exact .inl ⟨‹_›, by injection h with h; exact h.symm⟩
  · split at h
    · exact .inr (.inl ⟨by omega, ‹_›, by injection h with h; exact h.symm⟩)
    · exact .inr (.inr ⟨by omega, by omega, by injection h with h; exact h.symm⟩)

/-- A PAD command completes when its tests pass. -/
theorem padCommand_next {v : Variant} (pad : State → State) {s : State} (h1 : s.mlen.toNat ≤ s.cfg.msgCap)
    (h2 : v.paddedLen s.mlen.toNat ≤ s.cfg.pbufCap) : padCommand v pad s = .next (pad s) := by
  unfold padCommand
  rw [if_neg (by omega), if_neg (by omega)]

/-- A block command (R135, R250): the test, then the effect. -/
theorem blockCommand_cases {v : Variant} {block : State → State} {s t : State}
    (h : blockCommand v block s = .next t) :
    (s.blockMissing v.blockSize ∧ t = s.raised .framing) ∨ (¬s.blockMissing v.blockSize ∧ t = block s) := by
  unfold blockCommand raise at h
  split at h
  · exact .inl ⟨‹_›, by injection h with h; exact h.symm⟩
  · exact .inr ⟨‹_›, by injection h with h; exact h.symm⟩

/-- A block command completes when block BIDX lies inside the padded buffer. -/
theorem blockCommand_next {v : Variant} (block : State → State) {s : State} (h1 : s.plen.toNat ≤ s.cfg.pbufCap)
    (h2 : v.blockSize * (s.bidx.toNat + 1) ≤ s.plen.toNat) : blockCommand v block s = .next (block s) := by
  unfold blockCommand
  rw [if_neg (by unfold State.blockMissing; omega)]

/-- A SQUEEZE command (R251): the test, then the effect. -/
theorem squeezeCommand_cases {L : Nat} {squeeze : State → State} {s t : State}
    (h : squeezeCommand L squeeze s = .next t) :
    (s.cfg.doutCap < L ∧ t = s.raised .cap) ∨ (L ≤ s.cfg.doutCap ∧ t = squeeze s) := by
  unfold squeezeCommand raise at h
  split at h
  · exact .inl ⟨‹_›, by injection h with h; exact h.symm⟩
  · exact .inr ⟨by omega, by injection h with h; exact h.symm⟩

/-- A SQUEEZE command completes when the output fits DOUT. -/
theorem squeezeCommand_next {L : Nat} (squeeze : State → State) {s : State} (h : L ≤ s.cfg.doutCap) :
    squeezeCommand L squeeze s = .next (squeeze s) := by
  unfold squeezeCommand
  rw [if_neg (by omega)]

/-- A HASH command (R262): the tests in order, then the effects. -/
theorem hashCommand_cases {v : Variant} {s t : State} (h : hashCommand v s = .next t) :
    (s.cfg.msgCap < s.mlen.toNat ∧ t = s.raised .framing) ∨
    (s.mlen.toNat ≤ s.cfg.msgCap ∧ s.cfg.pbufCap < v.paddedLen s.mlen.toNat ∧ t = s.raised .cap) ∨
    (s.mlen.toNat ≤ s.cfg.msgCap ∧ v.paddedLen s.mlen.toNat ≤ s.cfg.pbufCap ∧ s.cfg.doutCap < s.outLen v ∧
      t = s.raised .cap) ∨
    (s.mlen.toNat ≤ s.cfg.msgCap ∧ v.paddedLen s.mlen.toNat ≤ s.cfg.pbufCap ∧ s.outLen v ≤ s.cfg.doutCap ∧
      t = s.hashOf v) := by
  unfold hashCommand raise at h
  split at h
  · exact .inl ⟨‹_›, by injection h with h; exact h.symm⟩
  · split at h
    · exact .inr (.inl ⟨by omega, ‹_›, by injection h with h; exact h.symm⟩)
    · split at h
      · exact .inr (.inr (.inl ⟨by omega, by omega, ‹_›, by injection h with h; exact h.symm⟩))
      · exact .inr (.inr (.inr ⟨by omega, by omega, by omega, by injection h with h; exact h.symm⟩))

/-- A HASH command completes when its tests pass. -/
theorem hashCommand_next {v : Variant} {s : State} (h1 : s.mlen.toNat ≤ s.cfg.msgCap)
    (h2 : v.paddedLen s.mlen.toNat ≤ s.cfg.pbufCap) (h3 : s.outLen v ≤ s.cfg.doutCap) :
    hashCommand v s = .next (s.hashOf v) := by
  unfold hashCommand
  rw [if_neg (by omega), if_neg (by omega), if_neg (by omega)]

/-- HEX completes when DLEN describes bytes that exist. -/
theorem execHex_next {s : State} (h : s.dlen.toNat ≤ s.cfg.doutCap) : execHex s = .next s.hexOut := by
  unfold execHex
  rw [if_neg (by omega)]

/-- The effect of each command, its tests left out. -/
def effectOf : Instr → State → State
  | .rotl8 => fun s => s.setRes (rotl (s.opa.setWidth 8) s.opn.toNat)
  | .rotl16 => fun s => s.setRes (rotl (s.opa.setWidth 16) s.opn.toNat)
  | .rotl32 => fun s => s.setRes (rotl (s.opa.setWidth 32) s.opn.toNat)
  | .rotl64 => fun s => s.setRes (rotl (s.opa.setWidth 64) s.opn.toNat)
  | .rotr8 => fun s => s.setRes (rotr (s.opa.setWidth 8) s.opn.toNat)
  | .rotr16 => fun s => s.setRes (rotr (s.opa.setWidth 16) s.opn.toNat)
  | .rotr32 => fun s => s.setRes (rotr (s.opa.setWidth 32) s.opn.toNat)
  | .rotr64 => fun s => s.setRes (rotr (s.opa.setWidth 64) s.opn.toNat)
  | .ldw32be => fun s => s.setRes (beWord 32 (slice s.opb.toList 0 4))
  | .ldw64be => fun s => s.setRes (beWord 64 (slice s.opb.toList 0 8))
  | .ldw32le => fun s => s.setRes (leWord 32 (slice s.opb.toList 0 4))
  | .ldw64le => fun s => s.setRes (leWord 64 (slice s.opb.toList 0 8))
  | .stw32be => fun s => { s with opb := replaceFirst s.opb (toBe (s.opa.setWidth 32)) }
  | .stw64be => fun s => { s with opb := replaceFirst s.opb (toBe (s.opa.setWidth 64)) }
  | .stw32le => fun s => { s with opb := replaceFirst s.opb (toLe (s.opa.setWidth 32)) }
  | .stw64le => fun s => { s with opb := replaceFirst s.opb (toLe (s.opa.setWidth 64)) }
  | .initMd5 => State.initMd5
  | .initSha1 => State.initSha1
  | .initSha224 => State.initSha224
  | .initSha256 => State.initSha256
  | .initSha384 => State.initSha384
  | .initSha512 => State.initSha512
  | .initSha3_224 => State.initSha3_224
  | .initSha3_256 => State.initSha3_256
  | .initSha3_384 => State.initSha3_384
  | .initSha3_512 => State.initSha3_512
  | .initShake128 => State.initShake128
  | .initShake256 => State.initShake256
  | .padMd5 => State.padMd5
  | .padSha1 => State.padSha1
  | .padSha224 => State.padSha224
  | .padSha256 => State.padSha256
  | .padSha384 => State.padSha384
  | .padSha512 => State.padSha512
  | .padSha3_224 => State.padSha3_224
  | .padSha3_256 => State.padSha3_256
  | .padSha3_384 => State.padSha3_384
  | .padSha3_512 => State.padSha3_512
  | .padShake128 => State.padShake128
  | .padShake256 => State.padShake256
  | .compressMd5 => State.compressMd5
  | .compressSha1 => State.compressSha1
  | .compressSha224 => State.compressSha224
  | .compressSha256 => State.compressSha256
  | .compressSha384 => State.compressSha384
  | .compressSha512 => State.compressSha512
  | .absorbSha3_224 => State.absorbSha3_224
  | .absorbSha3_256 => State.absorbSha3_256
  | .absorbSha3_384 => State.absorbSha3_384
  | .absorbSha3_512 => State.absorbSha3_512
  | .absorbShake128 => State.absorbShake128
  | .absorbShake256 => State.absorbShake256
  | .digestMd5 => State.digestMd5
  | .digestSha1 => State.digestSha1
  | .digestSha224 => State.digestSha224
  | .digestSha256 => State.digestSha256
  | .digestSha384 => State.digestSha384
  | .digestSha512 => State.digestSha512
  | .squeezeSha3_224 => State.squeezeSha3_224
  | .squeezeSha3_256 => State.squeezeSha3_256
  | .squeezeSha3_384 => State.squeezeSha3_384
  | .squeezeSha3_512 => State.squeezeSha3_512
  | .squeezeShake128 => State.squeezeShake128
  | .squeezeShake256 => State.squeezeShake256
  | .hashMd5 => State.hashOf .md5
  | .hashSha1 => State.hashOf .sha1
  | .hashSha224 => State.hashOf .sha224
  | .hashSha256 => State.hashOf .sha256
  | .hashSha384 => State.hashOf .sha384
  | .hashSha512 => State.hashOf .sha512
  | .hashSha3_224 => State.hashOf .sha3_224
  | .hashSha3_256 => State.hashOf .sha3_256
  | .hashSha3_384 => State.hashOf .sha3_384
  | .hashSha3_512 => State.hashOf .sha3_512
  | .hashShake128 => State.hashOf .shake128
  | .hashShake256 => State.hashOf .shake256
  | .hex => State.hexOut
  | .keccakf => fun s => { s with ka := keccakF s.ka }

/-- A PAD command raises a fault or has its effect. -/
theorem padCommand_effect {v : Variant} {pad : State → State} {s t : State} (h : padCommand v pad s = .next t) :
    (∃ c, t = s.raised c) ∨ t = pad s := by
  rcases padCommand_cases h with ⟨_, h⟩ | ⟨_, _, h⟩ | ⟨_, _, h⟩
  · exact .inl ⟨_, h⟩
  · exact .inl ⟨_, h⟩
  · exact .inr h

/-- A block command raises a fault or has its effect. -/
theorem blockCommand_effect {v : Variant} {block : State → State} {s t : State}
    (h : blockCommand v block s = .next t) : (∃ c, t = s.raised c) ∨ t = block s := by
  rcases blockCommand_cases h with ⟨_, h⟩ | ⟨_, h⟩
  · exact .inl ⟨_, h⟩
  · exact .inr h

/-- A SQUEEZE command raises a fault or has its effect. -/
theorem squeezeCommand_effect {L : Nat} {squeeze : State → State} {s t : State}
    (h : squeezeCommand L squeeze s = .next t) : (∃ c, t = s.raised c) ∨ t = squeeze s := by
  rcases squeezeCommand_cases h with ⟨_, h⟩ | ⟨_, h⟩
  · exact .inl ⟨_, h⟩
  · exact .inr h

/-- A HASH command raises a fault or has its effect. -/
theorem hashCommand_effect {v : Variant} {s t : State} (h : hashCommand v s = .next t) :
    (∃ c, t = s.raised c) ∨ t = s.hashOf v := by
  rcases hashCommand_cases h with ⟨_, h⟩ | ⟨_, _, h⟩ | ⟨_, _, _, h⟩ | ⟨_, _, _, h⟩
  · exact .inl ⟨_, h⟩
  · exact .inl ⟨_, h⟩
  · exact .inl ⟨_, h⟩
  · exact .inr h

/-- HEX, when it does not stop, has its effect. -/
theorem execHex_effect {s t : State} (h : execHex s = .next t) : t = s.hexOut := by
  unfold execHex at h
  split at h
  · cases h
  · injection h with h
    exact h.symm

/-- What a command that does not stop can do: raise a fault, or have its effect. -/
theorem exec_cases {i : Instr} {s t : State} (h : exec i s = .next t) :
    (∃ c, t = s.raised c) ∨ t = effectOf i s := by
  cases i <;>
    first
    | exact .inr (by injection h with h; exact h.symm)
    | exact padCommand_effect h
    | exact blockCommand_effect h
    | exact squeezeCommand_effect h
    | exact hashCommand_effect h
    | exact .inr (execHex_effect h)

end Sys2Proof.Machine
end

