-- ==== Sys2Proof/Laws/Commands.lean ====
section
/-! SUPPORT. What no command changes, and what the effect of each command keeps: the lemmas about `effectOf` that
stand for unfolding a command. -/

namespace Sys2Proof.Machine

/-- What each block effect keeps, any number of them keep. -/
theorem iterate_blockOf {α : Type} (f : State → α) {v : Variant} (h : ∀ s : State, f (s.blockOf v) = f s) (n : Nat)
    (s : State) : f ((State.blockOf v)^[n] s) = f s := by
  induction n generalizing s with
  | zero => rfl
  | succ n ih => rw [Function.iterate_succ_apply, ih, h]

/-- What the four effects keep, HASH keeps. -/
theorem hashOf_keeps {α : Type} (f : State → α) {v : Variant} (hi : ∀ s : State, f (s.initOf v) = f s)
    (hp : ∀ s : State, f (s.padOf v) = f s) (hb : ∀ s : State, f (s.blockOf v) = f s)
    (ho : ∀ s : State, f (s.outOf v) = f s) (s : State) : f (s.hashOf v) = f s := by
  unfold State.hashOf
  rw [ho, iterate_blockOf f hb, hp, hi]

/-- What every effect but HASH's keeps, and the four effects HASH is made of, every command keeps. -/
theorem effectOf_keeps {α : Type} (f : State → α)
    (hi : ∀ v s, f (State.initOf v s) = f s) (hp : ∀ v s, f (State.padOf v s) = f s)
    (hb : ∀ v s, f (State.blockOf v s) = f s) (ho : ∀ v s, f (State.outOf v s) = f s)
    (hres : ∀ (s : State) (x : Word64), f { s with res := x } = f s)
    (hopb : ∀ (s : State) (x : Vector Byte 8), f { s with opb := x } = f s)
    (hka : ∀ (s : State) (x : Vector Word64 25), f { s with ka := x } = f s)
    (hhex : ∀ s : State, f s.hexOut = f s) (i : Instr) (s : State) : f (effectOf i s) = f s :=
  match i with
  | .rotl8 => hres s _
  | .rotl16 => hres s _
  | .rotl32 => hres s _
  | .rotl64 => hres s _
  | .rotr8 => hres s _
  | .rotr16 => hres s _
  | .rotr32 => hres s _
  | .rotr64 => hres s _
  | .ldw32be => hres s _
  | .ldw64be => hres s _
  | .ldw32le => hres s _
  | .ldw64le => hres s _
  | .stw32be => hopb s _
  | .stw64be => hopb s _
  | .stw32le => hopb s _
  | .stw64le => hopb s _
  | .initMd5 => hi .md5 s
  | .initSha1 => hi .sha1 s
  | .initSha224 => hi .sha224 s
  | .initSha256 => hi .sha256 s
  | .initSha384 => hi .sha384 s
  | .initSha512 => hi .sha512 s
  | .initSha3_224 => hi .sha3_224 s
  | .initSha3_256 => hi .sha3_256 s
  | .initSha3_384 => hi .sha3_384 s
  | .initSha3_512 => hi .sha3_512 s
  | .initShake128 => hi .shake128 s
  | .initShake256 => hi .shake256 s
  | .padMd5 => hp .md5 s
  | .padSha1 => hp .sha1 s
  | .padSha224 => hp .sha224 s
  | .padSha256 => hp .sha256 s
  | .padSha384 => hp .sha384 s
  | .padSha512 => hp .sha512 s
  | .padSha3_224 => hp .sha3_224 s
  | .padSha3_256 => hp .sha3_256 s
  | .padSha3_384 => hp .sha3_384 s
  | .padSha3_512 => hp .sha3_512 s
  | .padShake128 => hp .shake128 s
  | .padShake256 => hp .shake256 s
  | .compressMd5 => hb .md5 s
  | .compressSha1 => hb .sha1 s
  | .compressSha224 => hb .sha224 s
  | .compressSha256 => hb .sha256 s
  | .compressSha384 => hb .sha384 s
  | .compressSha512 => hb .sha512 s
  | .absorbSha3_224 => hb .sha3_224 s
  | .absorbSha3_256 => hb .sha3_256 s
  | .absorbSha3_384 => hb .sha3_384 s
  | .absorbSha3_512 => hb .sha3_512 s
  | .absorbShake128 => hb .shake128 s
  | .absorbShake256 => hb .shake256 s
  | .digestMd5 => ho .md5 s
  | .digestSha1 => ho .sha1 s
  | .digestSha224 => ho .sha224 s
  | .digestSha256 => ho .sha256 s
  | .digestSha384 => ho .sha384 s
  | .digestSha512 => ho .sha512 s
  | .squeezeSha3_224 => ho .sha3_224 s
  | .squeezeSha3_256 => ho .sha3_256 s
  | .squeezeSha3_384 => ho .sha3_384 s
  | .squeezeSha3_512 => ho .sha3_512 s
  | .squeezeShake128 => ho .shake128 s
  | .squeezeShake256 => ho .shake256 s
  | .hashMd5 => hashOf_keeps f (hi .md5) (hp .md5) (hb .md5) (ho .md5) s
  | .hashSha1 => hashOf_keeps f (hi .sha1) (hp .sha1) (hb .sha1) (ho .sha1) s
  | .hashSha224 => hashOf_keeps f (hi .sha224) (hp .sha224) (hb .sha224) (ho .sha224) s
  | .hashSha256 => hashOf_keeps f (hi .sha256) (hp .sha256) (hb .sha256) (ho .sha256) s
  | .hashSha384 => hashOf_keeps f (hi .sha384) (hp .sha384) (hb .sha384) (ho .sha384) s
  | .hashSha512 => hashOf_keeps f (hi .sha512) (hp .sha512) (hb .sha512) (ho .sha512) s
  | .hashSha3_224 => hashOf_keeps f (hi .sha3_224) (hp .sha3_224) (hb .sha3_224) (ho .sha3_224) s
  | .hashSha3_256 => hashOf_keeps f (hi .sha3_256) (hp .sha3_256) (hb .sha3_256) (ho .sha3_256) s
  | .hashSha3_384 => hashOf_keeps f (hi .sha3_384) (hp .sha3_384) (hb .sha3_384) (ho .sha3_384) s
  | .hashSha3_512 => hashOf_keeps f (hi .sha3_512) (hp .sha3_512) (hb .sha3_512) (ho .sha3_512) s
  | .hashShake128 => hashOf_keeps f (hi .shake128) (hp .shake128) (hb .shake128) (ho .shake128) s
  | .hashShake256 => hashOf_keeps f (hi .shake256) (hp .shake256) (hb .shake256) (ho .shake256) s
  | .hex => hhex s
  | .keccakf => hka s _

/-- A field that none of `bidx`, `plen`, `dlen`, `xlen`, `res`, `opb`, the state files and the memories is, no command
changes. -/
theorem effectOf_unwritten (i : Instr) (s : State) :
    (effectOf i s).status = s.status ∧ (effectOf i s).mlen = s.mlen ∧ (effectOf i s).olen = s.olen ∧
    (effectOf i s).opa = s.opa ∧ (effectOf i s).opn = s.opn ∧ (effectOf i s).msg = s.msg ∧
    (effectOf i s).cfg = s.cfg ∧ (effectOf i s).epoch = s.epoch ∧ (effectOf i s).pending = s.pending ∧
    (effectOf i s).reads = s.reads := by
  refine ⟨effectOf_keeps State.status ?_ ?_ ?_ ?_ ?_ ?_ ?_ ?_ i s, effectOf_keeps State.mlen ?_ ?_ ?_ ?_ ?_ ?_ ?_ ?_ i s,
    effectOf_keeps State.olen ?_ ?_ ?_ ?_ ?_ ?_ ?_ ?_ i s, effectOf_keeps State.opa ?_ ?_ ?_ ?_ ?_ ?_ ?_ ?_ i s,
    effectOf_keeps State.opn ?_ ?_ ?_ ?_ ?_ ?_ ?_ ?_ i s, effectOf_keeps State.msg ?_ ?_ ?_ ?_ ?_ ?_ ?_ ?_ i s,
    effectOf_keeps State.cfg ?_ ?_ ?_ ?_ ?_ ?_ ?_ ?_ i s, effectOf_keeps State.epoch ?_ ?_ ?_ ?_ ?_ ?_ ?_ ?_ i s,
    effectOf_keeps State.pending ?_ ?_ ?_ ?_ ?_ ?_ ?_ ?_ i s, effectOf_keeps State.reads ?_ ?_ ?_ ?_ ?_ ?_ ?_ ?_ i s⟩ <;>
  first
  | (intro v s; cases v <;> rfl)
  | (intro s; rfl)

/-- What no command changes, whatever it does: raise a fault or have its effect. -/
theorem exec_keeps {i : Instr} {s t : State} (h : exec i s = .next t) :
    t.mlen = s.mlen ∧ t.olen = s.olen ∧ t.opa = s.opa ∧ t.opn = s.opn ∧ t.msg = s.msg ∧ t.cfg = s.cfg ∧
    t.epoch = s.epoch ∧ t.pending = s.pending ∧ t.reads = s.reads := by
  rcases exec_cases h with ⟨c, rfl⟩ | rfl
  · rw [raised_eq]
    exact ⟨rfl, rfl, rfl, rfl, rfl, rfl, rfl, rfl, rfl⟩
  · exact (effectOf_unwritten i s).2

/-- What a command that does not stop can do, said once: it raises a Fault, or it is of one of nine kinds, its tests
have passed, and it has that kind's effect. -/
inductive Kind (s t : State) : Instr → Prop
  | raised {i : Instr} (c : FaultCode) (h : t = s.raised c) : Kind s t i
  | res {i : Instr} {x : Word64} (hi : i ∈ rotlRow ++ rotrRow ++ ldwRow) (h : t = { s with res := x }) : Kind s t i
  | opb {i : Instr} {x : Vector Byte 8} (hi : i ∈ stwRow) (h : t = { s with opb := x }) : Kind s t i
  | keccakf (h : t = { s with ka := keccakF s.ka }) : Kind s t .keccakf
  | hex (hd : s.dlen.toNat ≤ s.cfg.doutCap) (h : t = s.hexOut) : Kind s t .hex
  | init {v : Variant} (h : t = s.initOf v) : Kind s t v.init
  | pad {v : Variant} (hm : s.mlen.toNat ≤ s.cfg.msgCap) (hp : v.paddedLen s.mlen.toNat ≤ s.cfg.pbufCap)
      (h : t = s.padOf v) : Kind s t v.pad
  | block {v : Variant} (hb : ¬s.blockMissing v.blockSize) (h : t = s.blockOf v) : Kind s t v.blockCmd
  | out {v : Variant} (hL : s.outLen v ≤ 64 ∨ s.outLen v ≤ s.cfg.doutCap) (h : t = s.outOf v) : Kind s t v.out
  | hash {v : Variant} (hm : s.mlen.toNat ≤ s.cfg.msgCap) (hp : v.paddedLen s.mlen.toNat ≤ s.cfg.pbufCap)
      (hL : s.outLen v ≤ s.cfg.doutCap) (h : t = s.hashOf v) : Kind s t v.hash

theorem next_inj {s t : State} (h : (.next s : Result) = .next t) : t = s := by
  injection h with h
  exact h.symm

theorem pad_kind {v : Variant} {s t : State} (h : padCommand v (State.padOf v) s = .next t) : Kind s t v.pad := by
  rcases padCommand_cases h with ⟨_, h⟩ | ⟨_, _, h⟩ | ⟨hm, hp, h⟩
  · exact .raised _ h
  · exact .raised _ h
  · exact .pad hm hp h

theorem block_kind {v : Variant} {s t : State} (h : blockCommand v (State.blockOf v) s = .next t) :
    Kind s t v.blockCmd := by
  rcases blockCommand_cases h with ⟨_, h⟩ | ⟨hb, h⟩
  · exact .raised _ h
  · exact .block hb h

theorem squeeze_kind {v : Variant} {s t : State} (h : squeezeCommand (s.outLen v) (State.outOf v) s = .next t) :
    Kind s t v.out := by
  rcases squeezeCommand_cases h with ⟨_, h⟩ | ⟨hL, h⟩
  · exact .raised _ h
  · exact .out (.inr hL) h

theorem hash_kind {v : Variant} {s t : State} (h : hashCommand v s = .next t) : Kind s t v.hash := by
  rcases hashCommand_cases h with ⟨_, h⟩ | ⟨_, _, h⟩ | ⟨_, _, _, h⟩ | ⟨hm, hp, hL, h⟩
  · exact .raised _ h
  · exact .raised _ h
  · exact .raised _ h
  · exact .hash hm hp hL h

theorem hex_kind {s t : State} (h : execHex s = .next t) : Kind s t .hex := by
  unfold execHex at h
  split at h
  · cases h
  · exact .hex (by omega) (next_inj h)

/-- Every command is of one of these kinds. -/
theorem exec_kind {i : Instr} {s t : State} (h : exec i s = .next t) : Kind s t i :=
  match i, h with
  | .rotl8, h => .res (by decide) (next_inj h)
  | .rotl16, h => .res (by decide) (next_inj h)
  | .rotl32, h => .res (by decide) (next_inj h)
  | .rotl64, h => .res (by decide) (next_inj h)
  | .rotr8, h => .res (by decide) (next_inj h)
  | .rotr16, h => .res (by decide) (next_inj h)
  | .rotr32, h => .res (by decide) (next_inj h)
  | .rotr64, h => .res (by decide) (next_inj h)
  | .ldw32be, h => .res (by decide) (next_inj h)
  | .ldw64be, h => .res (by decide) (next_inj h)
  | .ldw32le, h => .res (by decide) (next_inj h)
  | .ldw64le, h => .res (by decide) (next_inj h)
  | .stw32be, h => .opb (by decide) (next_inj h)
  | .stw64be, h => .opb (by decide) (next_inj h)
  | .stw32le, h => .opb (by decide) (next_inj h)
  | .stw64le, h => .opb (by decide) (next_inj h)
  | .initMd5, h => .init (v := .md5) (next_inj h)
  | .initSha1, h => .init (v := .sha1) (next_inj h)
  | .initSha224, h => .init (v := .sha224) (next_inj h)
  | .initSha256, h => .init (v := .sha256) (next_inj h)
  | .initSha384, h => .init (v := .sha384) (next_inj h)
  | .initSha512, h => .init (v := .sha512) (next_inj h)
  | .initSha3_224, h => .init (v := .sha3_224) (next_inj h)
  | .initSha3_256, h => .init (v := .sha3_256) (next_inj h)
  | .initSha3_384, h => .init (v := .sha3_384) (next_inj h)
  | .initSha3_512, h => .init (v := .sha3_512) (next_inj h)
  | .initShake128, h => .init (v := .shake128) (next_inj h)
  | .initShake256, h => .init (v := .shake256) (next_inj h)
  | .padMd5, h => pad_kind (v := .md5) h
  | .padSha1, h => pad_kind (v := .sha1) h
  | .padSha224, h => pad_kind (v := .sha224) h
  | .padSha256, h => pad_kind (v := .sha256) h
  | .padSha384, h => pad_kind (v := .sha384) h
  | .padSha512, h => pad_kind (v := .sha512) h
  | .padSha3_224, h => pad_kind (v := .sha3_224) h
  | .padSha3_256, h => pad_kind (v := .sha3_256) h
  | .padSha3_384, h => pad_kind (v := .sha3_384) h
  | .padSha3_512, h => pad_kind (v := .sha3_512) h
  | .padShake128, h => pad_kind (v := .shake128) h
  | .padShake256, h => pad_kind (v := .shake256) h
  | .compressMd5, h => block_kind (v := .md5) h
  | .compressSha1, h => block_kind (v := .sha1) h
  | .compressSha224, h => block_kind (v := .sha224) h
  | .compressSha256, h => block_kind (v := .sha256) h
  | .compressSha384, h => block_kind (v := .sha384) h
  | .compressSha512, h => block_kind (v := .sha512) h
  | .absorbSha3_224, h => block_kind (v := .sha3_224) h
  | .absorbSha3_256, h => block_kind (v := .sha3_256) h
  | .absorbSha3_384, h => block_kind (v := .sha3_384) h
  | .absorbSha3_512, h => block_kind (v := .sha3_512) h
  | .absorbShake128, h => block_kind (v := .shake128) h
  | .absorbShake256, h => block_kind (v := .shake256) h
  | .digestMd5, h => .out (v := .md5) (.inl (by simp [State.outLen])) (next_inj h)
  | .digestSha1, h => .out (v := .sha1) (.inl (by simp [State.outLen])) (next_inj h)
  | .digestSha224, h => .out (v := .sha224) (.inl (by simp [State.outLen])) (next_inj h)
  | .digestSha256, h => .out (v := .sha256) (.inl (by simp [State.outLen])) (next_inj h)
  | .digestSha384, h => .out (v := .sha384) (.inl (by simp [State.outLen])) (next_inj h)
  | .digestSha512, h => .out (v := .sha512) (.inl (by simp [State.outLen])) (next_inj h)
  | .squeezeSha3_224, h => squeeze_kind (v := .sha3_224) h
  | .squeezeSha3_256, h => squeeze_kind (v := .sha3_256) h
  | .squeezeSha3_384, h => squeeze_kind (v := .sha3_384) h
  | .squeezeSha3_512, h => squeeze_kind (v := .sha3_512) h
  | .squeezeShake128, h => squeeze_kind (v := .shake128) h
  | .squeezeShake256, h => squeeze_kind (v := .shake256) h
  | .hashMd5, h => hash_kind (v := .md5) h
  | .hashSha1, h => hash_kind (v := .sha1) h
  | .hashSha224, h => hash_kind (v := .sha224) h
  | .hashSha256, h => hash_kind (v := .sha256) h
  | .hashSha384, h => hash_kind (v := .sha384) h
  | .hashSha512, h => hash_kind (v := .sha512) h
  | .hashSha3_224, h => hash_kind (v := .sha3_224) h
  | .hashSha3_256, h => hash_kind (v := .sha3_256) h
  | .hashSha3_384, h => hash_kind (v := .sha3_384) h
  | .hashSha3_512, h => hash_kind (v := .sha3_512) h
  | .hashShake128, h => hash_kind (v := .shake128) h
  | .hashShake256, h => hash_kind (v := .shake256) h
  | .hex, h => hex_kind h
  | .keccakf, h => .keccakf (next_inj h)

end Sys2Proof.Machine
end

