-- ==== Sys2Proof/Laws/HostPort.lean ====
section
/-! SUPPORT. The host's side: register numbers, what a host write and a host read can do, and what a step can do. -/

namespace Sys2Proof

/-- The number of each register (R24, R25, R27 to R31). -/
def Reg.number : Reg → Nat
  | .cmd => 0x00
  | .status => 0x01
  | .mlen => 0x02
  | .plen => 0x03
  | .olen => 0x04
  | .dlen => 0x05
  | .xlen => 0x06
  | .bidx => 0x07
  | .opa => 0x08
  | .opn => 0x09
  | .res => 0x0a
  | .opb i => 0x10 + i
  | .md5h i => 0x20 + i
  | .sha1h i => 0x28 + i
  | .s32h i => 0x30 + i
  | .s64h i => 0x38 + i
  | .ka i => 0x40 + i

theorem ite_eq_some {α : Type} {p : Prop} [Decidable p] {a b : Option α} {r : α}
    (h : (if p then a else b) = some r) : (p ∧ a = some r) ∨ (¬p ∧ b = some r) := by
  by_cases hp : p
  · exact .inl ⟨hp, by rwa [if_pos hp] at h⟩
  · exact .inr ⟨hp, by rwa [if_neg hp] at h⟩

theorem dite_eq_some {α : Type} {p : Prop} [Decidable p] {a : p → Option α} {b : Option α} {r : α}
    (h : (if hp : p then a hp else b) = some r) : (∃ hp : p, a hp = some r) ∨ (¬p ∧ b = some r) := by
  by_cases hp : p
  · exact .inl ⟨hp, by rwa [dif_pos hp] at h⟩
  · exact .inr ⟨hp, by rwa [dif_neg hp] at h⟩

/-- A number names at most the register whose number it is. -/
theorem Reg.number_of_ofNumber {k : Nat} {r : Reg} (h : Reg.ofNumber k = some r) : r.number = k := by
  unfold Reg.ofNumber at h
  rcases ite_eq_some h with ⟨rfl, h⟩ | ⟨_, h⟩
  · injection h with h
    subst h
    rfl
  rcases ite_eq_some h with ⟨rfl, h⟩ | ⟨_, h⟩
  · injection h with h
    subst h
    rfl
  rcases ite_eq_some h with ⟨rfl, h⟩ | ⟨_, h⟩
  · injection h with h
    subst h
    rfl
  rcases ite_eq_some h with ⟨rfl, h⟩ | ⟨_, h⟩
  · injection h with h
    subst h
    rfl
  rcases ite_eq_some h with ⟨rfl, h⟩ | ⟨_, h⟩
  · injection h with h
    subst h
    rfl
  rcases ite_eq_some h with ⟨rfl, h⟩ | ⟨_, h⟩
  · injection h with h
    subst h
    rfl
  rcases ite_eq_some h with ⟨rfl, h⟩ | ⟨_, h⟩
  · injection h with h
    subst h
    rfl
  rcases ite_eq_some h with ⟨rfl, h⟩ | ⟨_, h⟩
  · injection h with h
    subst h
    rfl
  rcases ite_eq_some h with ⟨rfl, h⟩ | ⟨_, h⟩
  · injection h with h
    subst h
    rfl
  rcases ite_eq_some h with ⟨rfl, h⟩ | ⟨_, h⟩
  · injection h with h
    subst h
    rfl
  rcases ite_eq_some h with ⟨rfl, h⟩ | ⟨_, h⟩
  · injection h with h
    subst h
    rfl
  rcases dite_eq_some h with ⟨hk, h⟩ | ⟨_, h⟩
  · injection h with h
    subst h
    simp only [Reg.number]
    omega
  rcases dite_eq_some h with ⟨hk, h⟩ | ⟨_, h⟩
  · injection h with h
    subst h
    simp only [Reg.number]
    omega
  rcases dite_eq_some h with ⟨hk, h⟩ | ⟨_, h⟩
  · injection h with h
    subst h
    simp only [Reg.number]
    omega
  rcases dite_eq_some h with ⟨hk, h⟩ | ⟨_, h⟩
  · injection h with h
    subst h
    simp only [Reg.number]
    omega
  rcases dite_eq_some h with ⟨hk, h⟩ | ⟨_, h⟩
  · injection h with h
    subst h
    simp only [Reg.number]
    omega
  rcases dite_eq_some h with ⟨hk, h⟩ | ⟨_, h⟩
  · injection h with h
    subst h
    simp only [Reg.number]
    omega
  cases h

/-- Every register is named by its number. -/
theorem Reg.ofNumber_number (r : Reg) : Reg.ofNumber r.number = some r := by
  cases r <;> first | rfl | (rename_i i; revert i; decide)

/-- The numbers and the registers they name. -/
theorem Reg.ofNumber_eq_some {k : Nat} {r : Reg} : Reg.ofNumber k = some r ↔ r.number = k :=
  ⟨Reg.number_of_ofNumber, fun h => h ▸ r.ofNumber_number⟩

end Sys2Proof

namespace Sys2Proof.Machine

/-- Writing one register leaves every other one alone. -/
theorem getReg_setReg_other (s : State) {r r' : Reg} (v : Word64) (h : r' ≠ r) :
    (s.setReg r v).getReg r' = s.getReg r' := by
  cases r <;> cases r' <;>
    first
    | rfl
    | exact absurd rfl h
    | (rename_i i j
       have hij : i.val ≠ j.val := fun hh => h (by rw [Fin.ext hh])
       simp [State.setReg, State.getReg, hij])

/-- Writing a register touches no memory and none of the model's own fields. -/
theorem setReg_keeps (s : State) (r : Reg) (v : Word64) :
    (∀ sp, (s.setReg r v).mem sp = s.mem sp) ∧ (s.setReg r v).cfg = s.cfg ∧ (s.setReg r v).epoch = s.epoch ∧
    (s.setReg r v).pending = s.pending ∧ (s.setReg r v).reads = s.reads := by
  cases r <;> exact ⟨fun sp => by cases sp <;> rfl, rfl, rfl, rfl, rfl⟩

/-- A host write of a register that is not CMD takes effect on a writable register and is ignored otherwise. -/
theorem hostRegWrite_cases {k : Nat} {v : Word64} {s t : State} (hk : k ≠ 0x00) (h : hostRegWrite k v s = .next t) :
    t = s ∨ ∃ r, Reg.ofNumber k = some r ∧ r.access = .rw ∧ t = s.setReg r v := by
  unfold hostRegWrite at h
  split at h
  · exact .inl (by injection h with h; exact h.symm)
  · rename_i hc
    exact absurd (Reg.number_of_ofNumber hc).symm hk
  · rename_i r _ hr
    split at h
    · exact .inr ⟨r, hr, ‹_›, by injection h with h; exact h.symm⟩
    · exact .inl (by injection h with h; exact h.symm)

/-- A host write of CMD issues the low 32 bits (R311). -/
theorem hostRegWrite_cmd (v : Word64) (s : State) : hostRegWrite 0x00 v s = issueCommand (v.setWidth 32) s := rfl

/-- Issuing a word: nothing while FAULT is 1, a Fault, or the command. -/
theorem issueCommand_cases {w : Word32} {s t : State} (h : issueCommand w s = .next t) :
    (s.faulted = true ∧ t = s) ∨ (s.faulted = false ∧ t = s.raised .illcmd) ∨
    (s.faulted = false ∧ ∃ i, decode w = .instr i ∧ exec i s = .next t) := by
  unfold issueCommand at h
  split at h
  · exact .inl ⟨‹_›, by injection h with h; exact h.symm⟩
  · have hf : s.faulted = false := by simpa using ‹¬s.faulted = true›
    split at h
    · exact .inr (.inl ⟨hf, by injection h with h; exact h.symm⟩)
    · exact .inr (.inr ⟨hf, _, ‹_›, h⟩)

/-- A host write of a byte reaches MSG or PBUF below capacity, or nothing. -/
theorem hostMemWrite_cases (sp : Space) (a : Nat) (b : Byte) (s : State) :
    (hostMemWrite sp a b s = s) ∨
    (sp.access = .rw ∧ a < s.cfg.capacity sp ∧ hostMemWrite sp a b s = s.writeBytes sp a [b]) := by
  unfold hostMemWrite
  split
  · exact .inr ⟨‹_ ∧ _›.1, ‹_ ∧ _›.2, rfl⟩
  · exact .inl rfl

/-- A host write of a byte keeps the canonical form of every memory. -/
theorem hostMemWrite_wf (sp : Space) (a : Nat) (b : Byte) {s : State} (h : ∀ q, (s.mem q).wf) (q : Space) :
    ((hostMemWrite sp a b s).mem q).wf := by
  rcases hostMemWrite_cases sp a b s with h1 | ⟨_, _, h1⟩ <;> rw [h1]
  · exact h q
  · by_cases hq : q = sp
    · subst hq
      rw [mem_writeBytes_same]
      exact MemoryLaws.writeBytes_wf (h q) _ _
    · rw [mem_writeBytes_other _ _ _ hq]
      exact h q

/-- A step takes the next primitive and performs it on the state without it. -/
theorem step_cons {s : State} {op : HostOp} {rest : List HostOp} (h : s.pending = op :: rest) :
    step s = hostStep op { s with pending := rest } := by
  unfold step
  rw [h]

/-- With no primitive to come a step changes nothing. -/
theorem step_nil {s : State} (h : s.pending = []) : step s = .next s := by
  unfold step
  rw [h]

end Sys2Proof.Machine
end

