-- ==== Sys2Proof/Laws/PerInstr.lean ====
section
/-! SUPPORT. What holds of every command as syntax, one lemma per command: its word is a legal one (R77). -/

namespace Sys2Proof.Laws.EncodedWordLegal

/-- The word of a command has zero in bits 31:12, an assigned OP and a SEL in the range OP takes (R77). -/
def Statement (i : Instr) : Prop := legalWord (encode i)

theorem rotl8 : Statement .rotl8 := by unfold Statement; decide
theorem rotl16 : Statement .rotl16 := by unfold Statement; decide
theorem rotl32 : Statement .rotl32 := by unfold Statement; decide
theorem rotl64 : Statement .rotl64 := by unfold Statement; decide
theorem rotr8 : Statement .rotr8 := by unfold Statement; decide
theorem rotr16 : Statement .rotr16 := by unfold Statement; decide
theorem rotr32 : Statement .rotr32 := by unfold Statement; decide
theorem rotr64 : Statement .rotr64 := by unfold Statement; decide
theorem ldw32be : Statement .ldw32be := by unfold Statement; decide
theorem ldw64be : Statement .ldw64be := by unfold Statement; decide
theorem ldw32le : Statement .ldw32le := by unfold Statement; decide
theorem ldw64le : Statement .ldw64le := by unfold Statement; decide
theorem stw32be : Statement .stw32be := by unfold Statement; decide
theorem stw64be : Statement .stw64be := by unfold Statement; decide
theorem stw32le : Statement .stw32le := by unfold Statement; decide
theorem stw64le : Statement .stw64le := by unfold Statement; decide
theorem initMd5 : Statement .initMd5 := by unfold Statement; decide
theorem initSha1 : Statement .initSha1 := by unfold Statement; decide
theorem initSha224 : Statement .initSha224 := by unfold Statement; decide
theorem initSha256 : Statement .initSha256 := by unfold Statement; decide
theorem initSha384 : Statement .initSha384 := by unfold Statement; decide
theorem initSha512 : Statement .initSha512 := by unfold Statement; decide
theorem initSha3_224 : Statement .initSha3_224 := by unfold Statement; decide
theorem initSha3_256 : Statement .initSha3_256 := by unfold Statement; decide
theorem initSha3_384 : Statement .initSha3_384 := by unfold Statement; decide
theorem initSha3_512 : Statement .initSha3_512 := by unfold Statement; decide
theorem initShake128 : Statement .initShake128 := by unfold Statement; decide
theorem initShake256 : Statement .initShake256 := by unfold Statement; decide
theorem padMd5 : Statement .padMd5 := by unfold Statement; decide
theorem padSha1 : Statement .padSha1 := by unfold Statement; decide
theorem padSha224 : Statement .padSha224 := by unfold Statement; decide
theorem padSha256 : Statement .padSha256 := by unfold Statement; decide
theorem padSha384 : Statement .padSha384 := by unfold Statement; decide
theorem padSha512 : Statement .padSha512 := by unfold Statement; decide
theorem padSha3_224 : Statement .padSha3_224 := by unfold Statement; decide
theorem padSha3_256 : Statement .padSha3_256 := by unfold Statement; decide
theorem padSha3_384 : Statement .padSha3_384 := by unfold Statement; decide
theorem padSha3_512 : Statement .padSha3_512 := by unfold Statement; decide
theorem padShake128 : Statement .padShake128 := by unfold Statement; decide
theorem padShake256 : Statement .padShake256 := by unfold Statement; decide
theorem compressMd5 : Statement .compressMd5 := by unfold Statement; decide
theorem compressSha1 : Statement .compressSha1 := by unfold Statement; decide
theorem compressSha224 : Statement .compressSha224 := by unfold Statement; decide
theorem compressSha256 : Statement .compressSha256 := by unfold Statement; decide
theorem compressSha384 : Statement .compressSha384 := by unfold Statement; decide
theorem compressSha512 : Statement .compressSha512 := by unfold Statement; decide
theorem absorbSha3_224 : Statement .absorbSha3_224 := by unfold Statement; decide
theorem absorbSha3_256 : Statement .absorbSha3_256 := by unfold Statement; decide
theorem absorbSha3_384 : Statement .absorbSha3_384 := by unfold Statement; decide
theorem absorbSha3_512 : Statement .absorbSha3_512 := by unfold Statement; decide
theorem absorbShake128 : Statement .absorbShake128 := by unfold Statement; decide
theorem absorbShake256 : Statement .absorbShake256 := by unfold Statement; decide
theorem digestMd5 : Statement .digestMd5 := by unfold Statement; decide
theorem digestSha1 : Statement .digestSha1 := by unfold Statement; decide
theorem digestSha224 : Statement .digestSha224 := by unfold Statement; decide
theorem digestSha256 : Statement .digestSha256 := by unfold Statement; decide
theorem digestSha384 : Statement .digestSha384 := by unfold Statement; decide
theorem digestSha512 : Statement .digestSha512 := by unfold Statement; decide
theorem squeezeSha3_224 : Statement .squeezeSha3_224 := by unfold Statement; decide
theorem squeezeSha3_256 : Statement .squeezeSha3_256 := by unfold Statement; decide
theorem squeezeSha3_384 : Statement .squeezeSha3_384 := by unfold Statement; decide
theorem squeezeSha3_512 : Statement .squeezeSha3_512 := by unfold Statement; decide
theorem squeezeShake128 : Statement .squeezeShake128 := by unfold Statement; decide
theorem squeezeShake256 : Statement .squeezeShake256 := by unfold Statement; decide
theorem hashMd5 : Statement .hashMd5 := by unfold Statement; decide
theorem hashSha1 : Statement .hashSha1 := by unfold Statement; decide
theorem hashSha224 : Statement .hashSha224 := by unfold Statement; decide
theorem hashSha256 : Statement .hashSha256 := by unfold Statement; decide
theorem hashSha384 : Statement .hashSha384 := by unfold Statement; decide
theorem hashSha512 : Statement .hashSha512 := by unfold Statement; decide
theorem hashSha3_224 : Statement .hashSha3_224 := by unfold Statement; decide
theorem hashSha3_256 : Statement .hashSha3_256 := by unfold Statement; decide
theorem hashSha3_384 : Statement .hashSha3_384 := by unfold Statement; decide
theorem hashSha3_512 : Statement .hashSha3_512 := by unfold Statement; decide
theorem hashShake128 : Statement .hashShake128 := by unfold Statement; decide
theorem hashShake256 : Statement .hashShake256 := by unfold Statement; decide
theorem hex : Statement .hex := by unfold Statement; decide
theorem keccakf : Statement .keccakf := by unfold Statement; decide

end Sys2Proof.Laws.EncodedWordLegal
end

