-- ==== Sys2Proof/Laws/Runs.lean ====
section
/-! SUPPORT. Runs of the machine, one step after another, and the commands of a variant as the shared skeletons. -/

namespace Sys2Proof.Machine

section AnyCore

variable (M : Host.Core)

theorem coreRun_step (k : Nat) (s t : M.State) (h : M.step s = .next t) : M.run (k + 1) s = M.run k t := by
  simp only [Host.Core.run, h]

theorem coreRun_append (m n : Nat) (s t : M.State) (h : M.run m s = .next t) : M.run (m + n) s = M.run n t := by
  induction m generalizing s with
  | zero => rw [Nat.zero_add]; cases h; rfl
  | succ m ih =>
    rw [Nat.add_right_comm]
    cases hs : M.step s with
    | next s' =>
      simp only [Host.Core.run, hs] at h ⊢
      exact ih s' h
    | fault r => simp only [Host.Core.run, hs] at h; cases h
    | refused r => simp only [Host.Core.run, hs] at h; cases h

end AnyCore

/-- A run whose first step answers a next state goes on from there. -/
theorem run_step {s t : State} (h : step s = .next t) (k : Nat) :
    Host.Core.run core (k + 1) s = Host.Core.run core k t := coreRun_step core k s t h

/-- A run goes on from where a first part of it has come. -/
theorem run_append {m : Nat} {s t : State} (h : Host.Core.run core m s = .next t) (n : Nat) :
    Host.Core.run core (m + n) s = Host.Core.run core n t := coreRun_append core m n s t h

theorem exec_init (v : Variant) (s : State) : exec v.init s = .next (s.initOf v) := by cases v <;> rfl

theorem exec_pad (v : Variant) (s : State) : exec v.pad s = padCommand v (State.padOf v) s := by cases v <;> rfl

theorem exec_blockCmd (v : Variant) (s : State) : exec v.blockCmd s = blockCommand v (State.blockOf v) s := by
  cases v <;> rfl

theorem exec_hash (v : Variant) (s : State) : exec v.hash s = hashCommand v s := by cases v <;> rfl

/-- The word `command` writes is the command's. -/
theorem command_word (i : Instr) : decode (((encode i).setWidth 64).setWidth 32) = .instr i := by cases i <;> rfl

end Sys2Proof.Machine
end

