-- ==== Sys2Proof/Tests/Slice0.lean ====
section
/-! SUPPORT. The model's own tests: well-formedness, the decoding of every command's word, single steps with results
taken from the examples and vectors of spec/, and, for every statement with hypotheses, a state that meets them. -/

namespace Sys2Proof.Tests

open Sys2Proof.Machine Sys2Proof.Claims

-- one theorem after another: with hundreds of them checked at once the check runs out of threads
set_option Elab.async false

/-! ## Well-formedness: an ill-formed term for each check -/

theorem test_config_default_legal : Config.default.legal := by decide

theorem test_config_smallest_legal : (Config.mk 0 200 64).legal := by decide

theorem test_config_largest_legal : (Config.mk (2 ^ 64 - 1) (2 ^ 64 - 1) (2 ^ 63 - 1)).legal := by decide

theorem test_config_msgCap_refused : ¬(Config.mk (2 ^ 64) 200 64).legal := by decide

theorem test_config_small_pbufCap_refused : ¬(Config.mk 1024 199 64).legal := by decide

theorem test_config_large_pbufCap_refused : ¬(Config.mk 1024 (2 ^ 64) 64).legal := by decide

theorem test_config_small_doutCap_refused : ¬(Config.mk 1024 200 63).legal := by decide

theorem test_config_large_doutCap_refused : ¬(Config.mk 1024 200 (2 ^ 63)).legal := by decide

/-- V82: bit 12 set; bit 31 set. -/
theorem test_word_zeroField_refused : ¬legalWord 0x00001014 ∧ ¬legalWord 0x80000014 := by decide

/-- V82: OP not assigned. -/
theorem test_word_op_refused :
    ¬legalWord 0x00000000 ∧ ¬legalWord 0x00000005 ∧ ¬legalWord 0x0000000f ∧ ¬legalWord 0x00000017 ∧
      ¬legalWord 0x000000ff := by decide

/-- V82: SEL past the last one OP takes. -/
theorem test_word_sel_refused :
    ¬legalWord 0x00000c10 ∧ ¬legalWord 0x00000f14 ∧ ¬legalWord 0x00000401 ∧ ¬legalWord 0x00000403 ∧
      ¬legalWord 0x00000115 ∧ ¬legalWord 0x00000116 := by decide

/-- V82: the decoder rejects them by name. -/
theorem test_decode_illegal :
    decode 0x00001014 = .illegal .zeroField ∧ decode 0xffffffff = .illegal .zeroField ∧
      decode 0x00000000 = .illegal .unassignedOp ∧ decode 0x000000ff = .illegal .unassignedOp ∧
      decode 0x00000c10 = .illegal .selOutOfRange ∧ decode 0x00000116 = .illegal .selOutOfRange := by decide

/-! ## Decoding: the word of every command, from V80 -/

theorem test_decode_rotates :
    decode 0x00000001 = .instr .rotl8 ∧
      decode 0x00000101 = .instr .rotl16 ∧
      decode 0x00000201 = .instr .rotl32 ∧
      decode 0x00000301 = .instr .rotl64 ∧
      decode 0x00000002 = .instr .rotr8 ∧
      decode 0x00000102 = .instr .rotr16 ∧
      decode 0x00000202 = .instr .rotr32 ∧
      decode 0x00000302 = .instr .rotr64 := by decide

theorem test_decode_loads_and_stores :
    decode 0x00000003 = .instr .ldw32be ∧
      decode 0x00000103 = .instr .ldw64be ∧
      decode 0x00000203 = .instr .ldw32le ∧
      decode 0x00000303 = .instr .ldw64le ∧
      decode 0x00000004 = .instr .stw32be ∧
      decode 0x00000104 = .instr .stw64be ∧
      decode 0x00000204 = .instr .stw32le ∧
      decode 0x00000304 = .instr .stw64le := by decide

theorem test_decode_init :
    decode 0x00000010 = .instr .initMd5 ∧
      decode 0x00000110 = .instr .initSha1 ∧
      decode 0x00000210 = .instr .initSha224 ∧
      decode 0x00000310 = .instr .initSha256 ∧
      decode 0x00000410 = .instr .initSha384 ∧
      decode 0x00000510 = .instr .initSha512 ∧
      decode 0x00000610 = .instr .initSha3_224 ∧
      decode 0x00000710 = .instr .initSha3_256 ∧
      decode 0x00000810 = .instr .initSha3_384 ∧
      decode 0x00000910 = .instr .initSha3_512 ∧
      decode 0x00000a10 = .instr .initShake128 ∧
      decode 0x00000b10 = .instr .initShake256 := by decide

theorem test_decode_pad :
    decode 0x00000011 = .instr .padMd5 ∧
      decode 0x00000111 = .instr .padSha1 ∧
      decode 0x00000211 = .instr .padSha224 ∧
      decode 0x00000311 = .instr .padSha256 ∧
      decode 0x00000411 = .instr .padSha384 ∧
      decode 0x00000511 = .instr .padSha512 ∧
      decode 0x00000611 = .instr .padSha3_224 ∧
      decode 0x00000711 = .instr .padSha3_256 ∧
      decode 0x00000811 = .instr .padSha3_384 ∧
      decode 0x00000911 = .instr .padSha3_512 ∧
      decode 0x00000a11 = .instr .padShake128 ∧
      decode 0x00000b11 = .instr .padShake256 := by decide

theorem test_decode_block :
    decode 0x00000012 = .instr .compressMd5 ∧
      decode 0x00000112 = .instr .compressSha1 ∧
      decode 0x00000212 = .instr .compressSha224 ∧
      decode 0x00000312 = .instr .compressSha256 ∧
      decode 0x00000412 = .instr .compressSha384 ∧
      decode 0x00000512 = .instr .compressSha512 ∧
      decode 0x00000612 = .instr .absorbSha3_224 ∧
      decode 0x00000712 = .instr .absorbSha3_256 ∧
      decode 0x00000812 = .instr .absorbSha3_384 ∧
      decode 0x00000912 = .instr .absorbSha3_512 ∧
      decode 0x00000a12 = .instr .absorbShake128 ∧
      decode 0x00000b12 = .instr .absorbShake256 := by decide

theorem test_decode_out :
    decode 0x00000013 = .instr .digestMd5 ∧
      decode 0x00000113 = .instr .digestSha1 ∧
      decode 0x00000213 = .instr .digestSha224 ∧
      decode 0x00000313 = .instr .digestSha256 ∧
      decode 0x00000413 = .instr .digestSha384 ∧
      decode 0x00000513 = .instr .digestSha512 ∧
      decode 0x00000613 = .instr .squeezeSha3_224 ∧
      decode 0x00000713 = .instr .squeezeSha3_256 ∧
      decode 0x00000813 = .instr .squeezeSha3_384 ∧
      decode 0x00000913 = .instr .squeezeSha3_512 ∧
      decode 0x00000a13 = .instr .squeezeShake128 ∧
      decode 0x00000b13 = .instr .squeezeShake256 := by decide

theorem test_decode_hash :
    decode 0x00000014 = .instr .hashMd5 ∧
      decode 0x00000114 = .instr .hashSha1 ∧
      decode 0x00000214 = .instr .hashSha224 ∧
      decode 0x00000314 = .instr .hashSha256 ∧
      decode 0x00000414 = .instr .hashSha384 ∧
      decode 0x00000514 = .instr .hashSha512 ∧
      decode 0x00000614 = .instr .hashSha3_224 ∧
      decode 0x00000714 = .instr .hashSha3_256 ∧
      decode 0x00000814 = .instr .hashSha3_384 ∧
      decode 0x00000914 = .instr .hashSha3_512 ∧
      decode 0x00000a14 = .instr .hashShake128 ∧
      decode 0x00000b14 = .instr .hashShake256 := by decide

theorem test_decode_hex_and_keccakf :
    decode 0x00000015 = .instr .hex ∧
      decode 0x00000016 = .instr .keccakf := by decide

/-- V81, R70: a word bit by bit: bits 31:12 zero, SEL = 0011, OP = 00010100. -/
theorem test_decode_fields : decode ((0 : BitVec 20) ++ (0b0011 : BitVec 4) ++ (0b00010100 : BitVec 8)) = .instr .hashSha256 := by
  decide

/-! ## Single steps -/

/-- What a step leaves, seen through `f`. -/
def after {α : Type} (f : State → α) (r : Result) : Option α :=
  match r with
  | .next t => some (f t)
  | .fault _ => none
  | .refused _ => none

/-- The step in which the host writes `w` to CMD. -/
def issue (w : Nat) (s : State) : Result := step (s.withFetchWord 32 w)

/-- The reset state with a message in MSG. -/
def message (bs : List Byte) : State :=
  { State.reset with msg := cellsAt 0 bs, mlen := BitVec.ofNat 64 bs.length }

/-- The message "abc". -/
def abc : State := message [0x61, 0x62, 0x63]

/-- The reset state with a padded buffer in PBUF. -/
def padded (bs : List Byte) : State :=
  { State.reset with pbuf := cellsAt 0 bs, plen := BitVec.ofNat 64 bs.length }

/-- The reset state with OPA and OPN. -/
def operands (opa opn : Word64) : State := { State.reset with opa := opa, opn := opn }

/-- The configuration of V83: MSG_CAP = 1024, PBUF_CAP = 200, DOUT_CAP = 64. -/
def small : State := { State.reset with cfg := ⟨1024, 200, 64⟩ }

/-- V10. -/
theorem test_rotl8_0 :
    after (fun t => t.res) (issue 0x00000001 (operands 0x81 1)) = some (0x3) := by decide +kernel

/-- V10. -/
theorem test_rotl8_1 :
    after (fun t => t.res) (issue 0x00000001 (operands 0xffffffffffffff81 9)) = some (0x3) := by decide +kernel

/-- V10. -/
theorem test_rotr8_2 :
    after (fun t => t.res) (issue 0x00000002 (operands 0x81 1)) = some (0xc0) := by decide +kernel

/-- V10. -/
theorem test_rotl16_3 :
    after (fun t => t.res) (issue 0x00000101 (operands 0x1234 20)) = some (0x2341) := by decide +kernel

/-- V10. -/
theorem test_rotr16_4 :
    after (fun t => t.res) (issue 0x00000102 (operands 0x1234 4)) = some (0x4123) := by decide +kernel

/-- V10. -/
theorem test_rotr16_5 :
    after (fun t => t.res) (issue 0x00000102 (operands 0x8001 0)) = some (0x8001) := by decide +kernel

/-- V10. -/
theorem test_rotl32_6 :
    after (fun t => t.res) (issue 0x00000201 (operands 0x12345678 32)) = some (0x12345678) := by decide +kernel

/-- V10. -/
theorem test_rotl32_7 :
    after (fun t => t.res) (issue 0x00000201 (operands 0xdeadbeef12345678 0xffffffffffffffff)) = some (0x91a2b3c) := by decide +kernel

/-- V10. -/
theorem test_rotr32_8 :
    after (fun t => t.res) (issue 0x00000202 (operands 0x12345678 8)) = some (0x78123456) := by decide +kernel

/-- V10. -/
theorem test_rotr32_9 :
    after (fun t => t.res) (issue 0x00000202 (operands 0x12345678 0xffffffffffffffff)) = some (0x2468acf0) := by decide +kernel

/-- V10. -/
theorem test_rotl64_10 :
    after (fun t => t.res) (issue 0x00000301 (operands 0x123456789abcdef 64)) = some (0x123456789abcdef) := by decide +kernel

/-- V10. -/
theorem test_rotl64_11 :
    after (fun t => t.res) (issue 0x00000301 (operands 0x123456789abcdef 0xffffffffffffffff)) = some (0x8091a2b3c4d5e6f7) := by decide +kernel

/-- V10. -/
theorem test_rotr64_12 :
    after (fun t => t.res) (issue 0x00000302 (operands 0x123456789abcdef 16)) = some (0xcdef0123456789ab) := by decide +kernel

/-- V10. -/
theorem test_rotr64_13 :
    after (fun t => t.res) (issue 0x00000302 (operands 1 1)) = some (0x8000000000000000) := by decide +kernel

/-- V12. -/
theorem test_ldw32be_a :
    after (fun t => t.res) (issue 0x00000003 { State.reset with opb := #v[1, 2, 3, 4, 5, 6, 7, 8] }) = some (0x01020304) := by decide +kernel

/-- V12. -/
theorem test_ldw32be_b :
    after (fun t => t.res) (issue 0x00000003 { State.reset with opb := #v[0xff, 0, 0, 0, 0, 0, 0, 0x80] }) = some (0xff000000) := by decide +kernel

/-- V12. -/
theorem test_ldw64be_a :
    after (fun t => t.res) (issue 0x00000103 { State.reset with opb := #v[1, 2, 3, 4, 5, 6, 7, 8] }) = some (0x0102030405060708) := by decide +kernel

/-- V12. -/
theorem test_ldw64be_b :
    after (fun t => t.res) (issue 0x00000103 { State.reset with opb := #v[0xff, 0, 0, 0, 0, 0, 0, 0x80] }) = some (0xff00000000000080) := by decide +kernel

/-- V12. -/
theorem test_ldw32le_a :
    after (fun t => t.res) (issue 0x00000203 { State.reset with opb := #v[1, 2, 3, 4, 5, 6, 7, 8] }) = some (0x04030201) := by decide +kernel

/-- V12. -/
theorem test_ldw32le_b :
    after (fun t => t.res) (issue 0x00000203 { State.reset with opb := #v[0xff, 0, 0, 0, 0, 0, 0, 0x80] }) = some (0xff) := by decide +kernel

/-- V12. -/
theorem test_ldw64le_a :
    after (fun t => t.res) (issue 0x00000303 { State.reset with opb := #v[1, 2, 3, 4, 5, 6, 7, 8] }) = some (0x0807060504030201) := by decide +kernel

/-- V12. -/
theorem test_ldw64le_b :
    after (fun t => t.res) (issue 0x00000303 { State.reset with opb := #v[0xff, 0, 0, 0, 0, 0, 0, 0x80] }) = some (0x80000000000000ff) := by decide +kernel

/-- V13. -/
theorem test_stw32be :
    after (fun t => (t.opb, t.res)) (issue 0x00000004 { State.reset with opa := 0x1122334455667788, opb := Vector.replicate 8 0xaa }) = some (#v[0x55, 0x66, 0x77, 0x88, 0xaa, 0xaa, 0xaa, 0xaa], 0) := by decide +kernel

/-- V13. -/
theorem test_stw64be :
    after (fun t => (t.opb, t.res)) (issue 0x00000104 { State.reset with opa := 0x1122334455667788, opb := Vector.replicate 8 0xaa }) = some (#v[0x11, 0x22, 0x33, 0x44, 0x55, 0x66, 0x77, 0x88], 0) := by decide +kernel

/-- V13. -/
theorem test_stw32le :
    after (fun t => (t.opb, t.res)) (issue 0x00000204 { State.reset with opa := 0x1122334455667788, opb := Vector.replicate 8 0xaa }) = some (#v[0x88, 0x77, 0x66, 0x55, 0xaa, 0xaa, 0xaa, 0xaa], 0) := by decide +kernel

/-- V13. -/
theorem test_stw64le :
    after (fun t => (t.opb, t.res)) (issue 0x00000304 { State.reset with opa := 0x1122334455667788, opb := Vector.replicate 8 0xaa }) = some (#v[0x88, 0x77, 0x66, 0x55, 0x44, 0x33, 0x22, 0x11], 0) := by decide +kernel

/-- V16. -/
theorem test_initMd5 :
    after (fun t => (t.md5h, t.bidx)) (issue 0x00000010 { State.reset with bidx := 5 }) = some (#v[0x67452301, 0xefcdab89, 0x98badcfe, 0x10325476], 0) := by decide +kernel

/-- V20. -/
theorem test_initSha1 :
    after (fun t => (t.sha1h, t.bidx)) (issue 0x00000110 { State.reset with bidx := 5 }) = some (#v[0x67452301, 0xefcdab89, 0x98badcfe, 0x10325476, 0xc3d2e1f0], 0) := by decide +kernel

/-- V31. -/
theorem test_initSha224 :
    after (fun t => (t.s32h, t.bidx)) (issue 0x00000210 { State.reset with bidx := 5 }) = some (#v[0xc1059ed8, 0x367cd507, 0x3070dd17, 0xf70e5939, 0xffc00b31, 0x68581511, 0x64f98fa7, 0xbefa4fa4], 0) := by decide +kernel

/-- V33. -/
theorem test_initSha256 :
    after (fun t => (t.s32h, t.bidx)) (issue 0x00000310 { State.reset with bidx := 5 }) = some (#v[0x6a09e667, 0xbb67ae85, 0x3c6ef372, 0xa54ff53a, 0x510e527f, 0x9b05688c, 0x1f83d9ab, 0x5be0cd19], 0) := by decide +kernel

/-- V34. -/
theorem test_initSha384 :
    after (fun t => (t.s64h, t.bidx)) (issue 0x00000410 { State.reset with bidx := 5 }) = some (#v[0xcbbb9d5dc1059ed8, 0x629a292a367cd507, 0x9159015a3070dd17, 0x152fecd8f70e5939, 0x67332667ffc00b31, 0x8eb44a8768581511, 0xdb0c2e0d64f98fa7, 0x47b5481dbefa4fa4], 0) := by decide +kernel

/-- V32. -/
theorem test_initSha512 :
    after (fun t => (t.s64h, t.bidx)) (issue 0x00000510 { State.reset with bidx := 5 }) = some (#v[0x6a09e667f3bcc908, 0xbb67ae8584caa73b, 0x3c6ef372fe94f82b, 0xa54ff53a5f1d36f1, 0x510e527fade682d1, 0x9b05688c2b3e6c1f, 0x1f83d9abfb41bd6b, 0x5be0cd19137e2179], 0) := by decide +kernel

/-- R224. -/
theorem test_initSha3_224 :
    after (fun t => (t.ka, t.bidx)) (issue 0x00000610 { State.reset with ka := Vector.replicate 25 1, bidx := 5 }) = some (Vector.replicate 25 0, 0) := by decide +kernel

/-- R225. -/
theorem test_initSha3_256 :
    after (fun t => (t.ka, t.bidx)) (issue 0x00000710 { State.reset with ka := Vector.replicate 25 1, bidx := 5 }) = some (Vector.replicate 25 0, 0) := by decide +kernel

/-- R226. -/
theorem test_initSha3_384 :
    after (fun t => (t.ka, t.bidx)) (issue 0x00000810 { State.reset with ka := Vector.replicate 25 1, bidx := 5 }) = some (Vector.replicate 25 0, 0) := by decide +kernel

/-- R227. -/
theorem test_initSha3_512 :
    after (fun t => (t.ka, t.bidx)) (issue 0x00000910 { State.reset with ka := Vector.replicate 25 1, bidx := 5 }) = some (Vector.replicate 25 0, 0) := by decide +kernel

/-- R228. -/
theorem test_initShake128 :
    after (fun t => (t.ka, t.bidx)) (issue 0x00000a10 { State.reset with ka := Vector.replicate 25 1, bidx := 5 }) = some (Vector.replicate 25 0, 0) := by decide +kernel

/-- R229. -/
theorem test_initShake256 :
    after (fun t => (t.ka, t.bidx)) (issue 0x00000b10 { State.reset with ka := Vector.replicate 25 1, bidx := 5 }) = some (Vector.replicate 25 0, 0) := by decide +kernel

/-- V16. -/
theorem test_padMd5_abc :
    after (fun t => (t.readBytes .pbuf 0 64, t.plen)) (issue 0x00000011 abc) = some ([0x61, 0x62, 0x63, 0x80] ++ List.replicate 52 0 ++ [0x18, 0, 0, 0, 0, 0, 0, 0], 64) := by decide +kernel

/-- V18. -/
theorem test_padMd5_two_blocks :
    after (fun t => (t.readBytes .pbuf 0 128, t.plen)) (issue 0x00000011 (message (List.replicate 64 0x61))) = some (List.replicate 64 0x61 ++ [0x80] ++ List.replicate 55 0 ++ [0, 2, 0, 0, 0, 0, 0, 0], 128) := by decide +kernel

/-- V20. -/
theorem test_padSha1_abc :
    after (fun t => (t.readBytes .pbuf 0 64, t.plen)) (issue 0x00000111 abc) = some ([0x61, 0x62, 0x63, 0x80] ++ List.replicate 52 0 ++ [0, 0, 0, 0, 0, 0, 0, 0x18], 64) := by decide +kernel

/-- V83g: 184 bytes pad to 256, which PBUF does not hold. -/
theorem test_padSha1_capacity :
    after (fun t => t.status) (issue 0x00000111 { small with mlen := 184 }) = some (0x301) := by decide +kernel

/-- V31, R182. -/
theorem test_padSha224_abc :
    after (fun t => (t.readBytes .pbuf 0 64, t.plen)) (issue 0x00000211 abc) = some ([0x61, 0x62, 0x63, 0x80] ++ List.replicate 52 0 ++ [0, 0, 0, 0, 0, 0, 0, 0x18], 64) := by decide +kernel

/-- R183. -/
theorem test_padSha256_empty :
    after (fun t => (t.readBytes .pbuf 0 64, t.plen)) (issue 0x00000311 (message [])) = some ([0x80] ++ List.replicate 63 0, 64) := by decide +kernel

/-- V36: a 56-byte message takes a second block. -/
theorem test_padSha256_56 :
    after (fun t => (t.readBytes .pbuf 0 128, t.plen)) (issue 0x00000311 (message (List.replicate 56 0x61))) = some (List.replicate 56 0x61 ++ [0x80] ++ List.replicate 69 0 ++ [0x01, 0xc0], 128) := by decide +kernel

/-- R184. -/
theorem test_padSha384_abc :
    after (fun t => (t.readBytes .pbuf 0 128, t.plen)) (issue 0x00000411 abc) = some ([0x61, 0x62, 0x63, 0x80] ++ List.replicate 122 0 ++ [0, 0x18], 128) := by decide +kernel

/-- V37. -/
theorem test_padSha512_112 :
    after (fun t => (t.readBytes .pbuf 0 256, t.plen)) (issue 0x00000511 (message (List.replicate 112 0x61))) = some (List.replicate 112 0x61 ++ [0x80] ++ List.replicate 141 0 ++ [0x03, 0x80], 256) := by decide +kernel

/-- V40. -/
theorem test_padSha3_224_abc :
    after (fun t => (t.readBytes .pbuf 0 144, t.plen)) (issue 0x00000611 abc) = some ([0x61, 0x62, 0x63, 0x6] ++ List.replicate 139 0 ++ [0x80], 144) := by decide +kernel

/-- V41: the suffix falls on the last byte of the block. -/
theorem test_padSha3_224_last_byte :
    after (fun t => (t.peek .pbuf 143, t.plen)) (issue 0x00000611 (message (List.replicate 143 0x61))) = some (0x86, 144) := by decide +kernel

/-- V40. -/
theorem test_padSha3_256_abc :
    after (fun t => (t.readBytes .pbuf 0 136, t.plen)) (issue 0x00000711 abc) = some ([0x61, 0x62, 0x63, 0x6] ++ List.replicate 131 0 ++ [0x80], 136) := by decide +kernel

/-- V41: the suffix falls on the last byte of the block. -/
theorem test_padSha3_256_last_byte :
    after (fun t => (t.peek .pbuf 135, t.plen)) (issue 0x00000711 (message (List.replicate 135 0x61))) = some (0x86, 136) := by decide +kernel

/-- V40. -/
theorem test_padSha3_384_abc :
    after (fun t => (t.readBytes .pbuf 0 104, t.plen)) (issue 0x00000811 abc) = some ([0x61, 0x62, 0x63, 0x6] ++ List.replicate 99 0 ++ [0x80], 104) := by decide +kernel

/-- V41: the suffix falls on the last byte of the block. -/
theorem test_padSha3_384_last_byte :
    after (fun t => (t.peek .pbuf 103, t.plen)) (issue 0x00000811 (message (List.replicate 103 0x61))) = some (0x86, 104) := by decide +kernel

/-- V40. -/
theorem test_padSha3_512_abc :
    after (fun t => (t.readBytes .pbuf 0 72, t.plen)) (issue 0x00000911 abc) = some ([0x61, 0x62, 0x63, 0x6] ++ List.replicate 67 0 ++ [0x80], 72) := by decide +kernel

/-- V41: the suffix falls on the last byte of the block. -/
theorem test_padSha3_512_last_byte :
    after (fun t => (t.peek .pbuf 71, t.plen)) (issue 0x00000911 (message (List.replicate 71 0x61))) = some (0x86, 72) := by decide +kernel

/-- V40. -/
theorem test_padShake128_abc :
    after (fun t => (t.readBytes .pbuf 0 168, t.plen)) (issue 0x00000a11 abc) = some ([0x61, 0x62, 0x63, 0x1f] ++ List.replicate 163 0 ++ [0x80], 168) := by decide +kernel

/-- V41: the suffix falls on the last byte of the block. -/
theorem test_padShake128_last_byte :
    after (fun t => (t.peek .pbuf 167, t.plen)) (issue 0x00000a11 (message (List.replicate 167 0x61))) = some (0x9f, 168) := by decide +kernel

/-- V40. -/
theorem test_padShake256_abc :
    after (fun t => (t.readBytes .pbuf 0 136, t.plen)) (issue 0x00000b11 abc) = some ([0x61, 0x62, 0x63, 0x1f] ++ List.replicate 131 0 ++ [0x80], 136) := by decide +kernel

/-- V41: the suffix falls on the last byte of the block. -/
theorem test_padShake256_last_byte :
    after (fun t => (t.peek .pbuf 135, t.plen)) (issue 0x00000b11 (message (List.replicate 135 0x61))) = some (0x9f, 136) := by decide +kernel

/-- V17. -/
theorem test_compressMd5_zero :
    after (fun t => (t.md5h, t.bidx, t.status)) (issue 0x00000012 (padded (List.replicate 64 0))) = some (#v[0xf7cd1c97, 0xa5483681, 0x2b68d832, 0xf90ca639], 1, 0) := by decide +kernel

/-- V83z: no wrap-around. -/
theorem test_compressMd5_no_wrap :
    after (fun t => t.status) (issue 0x00000012 { small with plen := 200, bidx := 0xffffffffffffffff }) = some (0x201) := by decide +kernel

/-- V21. -/
theorem test_compressSha1_zero :
    after (fun t => (t.sha1h, t.bidx)) (issue 0x00000112 (padded (List.replicate 64 0))) = some (#v[0x9e1547ed, 0x57ec91c2, 0x30fa8bc8, 0xc7785a54, 0xa7efa5e3], 1) := by decide +kernel

/-- V30. -/
theorem test_compressSha224_zero :
    after (fun t => (t.s32h, t.bidx)) (issue 0x00000212 (padded (List.replicate 64 0))) = some (#v[0x7ca51614, 0x425c3ba8, 0xce54dd2f, 0xc2020ae7, 0xb6e574d1, 0x98136d0f, 0xae7e26cc, 0xbf0be7a6], 1) := by decide +kernel

/-- V30. -/
theorem test_compressSha256_zero :
    after (fun t => (t.s32h, t.bidx)) (issue 0x00000312 (padded (List.replicate 64 0))) = some (#v[0x7ca51614, 0x425c3ba8, 0xce54dd2f, 0xc2020ae7, 0xb6e574d1, 0x98136d0f, 0xae7e26cc, 0xbf0be7a6], 1) := by decide +kernel

/-- V83u. -/
theorem test_compressSha256_missing_block :
    after (fun t => (t.status, t.bidx)) (issue 0x00000312 { small with plen := 64, bidx := 1 }) = some (0x201, 1) := by decide +kernel

/-- V30. -/
theorem test_compressSha384_zero :
    after (fun t => (t.s64h, t.bidx)) (issue 0x00000412 (padded (List.replicate 128 0))) = some (#v[0xad3a5da838ebf830, 0x5d7142ff85fcbedb, 0x7fa8bf86d6f7ca99, 0x1c6b15b039d70bbf, 0x29f6515289923518, 0x6fd7101d5f2e8f3a, 0x1c358d2476531450, 0x568c0d99d756dc3c], 1) := by decide +kernel

/-- V30. -/
theorem test_compressSha512_zero :
    after (fun t => (t.s64h, t.bidx)) (issue 0x00000512 (padded (List.replicate 128 0))) = some (#v[0xad3a5da838ebf830, 0x5d7142ff85fcbedb, 0x7fa8bf86d6f7ca99, 0x1c6b15b039d70bbf, 0x29f6515289923518, 0x6fd7101d5f2e8f3a, 0x1c358d2476531450, 0x568c0d99d756dc3c], 1) := by decide +kernel

/-- V83v: 128 is more than 127. -/
theorem test_compressSha512_short :
    after (fun t => t.status) (issue 0x00000512 { small with plen := 127 }) = some (0x201) := by decide +kernel

/-- R250: block 0 lies inside PLEN. -/
theorem test_absorbSha3_224_block :
    after (fun t => (t.bidx, t.status)) (issue 0x00000612 (padded (List.replicate 144 0))) = some (1, 0) := by decide +kernel

/-- V83s: PLEN is 0. -/
theorem test_absorbSha3_224_missing_block :
    after (fun t => (t.bidx, t.status)) (issue 0x00000612 small) = some (0, 0x201) := by decide +kernel

/-- R250: block 0 lies inside PLEN. -/
theorem test_absorbSha3_256_block :
    after (fun t => (t.bidx, t.status)) (issue 0x00000712 (padded (List.replicate 136 0))) = some (1, 0) := by decide +kernel

/-- V83s: PLEN is 0. -/
theorem test_absorbSha3_256_missing_block :
    after (fun t => (t.bidx, t.status)) (issue 0x00000712 small) = some (0, 0x201) := by decide +kernel

/-- R250: block 0 lies inside PLEN. -/
theorem test_absorbSha3_384_block :
    after (fun t => (t.bidx, t.status)) (issue 0x00000812 (padded (List.replicate 104 0))) = some (1, 0) := by decide +kernel

/-- V83s: PLEN is 0. -/
theorem test_absorbSha3_384_missing_block :
    after (fun t => (t.bidx, t.status)) (issue 0x00000812 small) = some (0, 0x201) := by decide +kernel

/-- R250: block 0 lies inside PLEN. -/
theorem test_absorbSha3_512_block :
    after (fun t => (t.bidx, t.status)) (issue 0x00000912 (padded (List.replicate 72 0))) = some (1, 0) := by decide +kernel

/-- V83s: PLEN is 0. -/
theorem test_absorbSha3_512_missing_block :
    after (fun t => (t.bidx, t.status)) (issue 0x00000912 small) = some (0, 0x201) := by decide +kernel

/-- R250: block 0 lies inside PLEN. -/
theorem test_absorbShake128_block :
    after (fun t => (t.bidx, t.status)) (issue 0x00000a12 (padded (List.replicate 168 0))) = some (1, 0) := by decide +kernel

/-- V83s: PLEN is 0. -/
theorem test_absorbShake128_missing_block :
    after (fun t => (t.bidx, t.status)) (issue 0x00000a12 small) = some (0, 0x201) := by decide +kernel

/-- R250: block 0 lies inside PLEN. -/
theorem test_absorbShake256_block :
    after (fun t => (t.bidx, t.status)) (issue 0x00000b12 (padded (List.replicate 136 0))) = some (1, 0) := by decide +kernel

/-- V83s: PLEN is 0. -/
theorem test_absorbShake256_missing_block :
    after (fun t => (t.bidx, t.status)) (issue 0x00000b12 small) = some (0, 0x201) := by decide +kernel

/-- R237: the block of the padded "abc" in the lanes, before the permutation. -/
theorem test_xorBlock :
    xorBlock 136 (Vector.replicate 25 0) (spongePad 136 0x06 [0x61, 0x62, 0x63]) =
      #v[0x0000000006636261, 0, 0, 0, 0, 0, 0, 0, 0, 0, 0, 0, 0, 0, 0, 0, 0x8000000000000000, 0, 0, 0, 0, 0, 0, 0, 0] := by
  decide +kernel

/-- R136. -/
theorem test_digestMd5 :
    after (fun t => (t.readBytes .dout 0 16, t.dlen)) (issue 0x00000013 { State.reset with md5h := #v[0xd98c1dd4, 0x04b2008f, 0x980980e9, 0x7e42f8ec] }) = some ([0xd4, 0x1d, 0x8c, 0xd9, 0x8f, 0x00, 0xb2, 0x04, 0xe9, 0x80, 0x09, 0x98, 0xec, 0xf8, 0x42, 0x7e], 16) := by decide +kernel

/-- V24. -/
theorem test_digestSha1 :
    after (fun t => (t.readBytes .dout 0 20, t.dlen)) (issue 0x00000113 { State.reset with sha1h := #v[0x67452301, 0xefcdab89, 0x98badcfe, 0x10325476, 0xc3d2e1f0] }) = some ([0x67, 0x45, 0x23, 0x01, 0xef, 0xcd, 0xab, 0x89, 0x98, 0xba, 0xdc, 0xfe, 0x10, 0x32, 0x54, 0x76, 0xc3, 0xd2, 0xe1, 0xf0], 20) := by decide +kernel

/-- V31. -/
theorem test_digestSha224 :
    after (fun t => (t.readBytes .dout 0 28, t.dlen)) (issue 0x00000213 { State.reset with s32h := #v[0x23097d22, 0x3405d822, 0x8642a477, 0xbda255b3, 0x2aadbce4, 0xbda0b3f7, 0xe36c9da7, 0xd2da082d] }) = some ([0x23, 0x09, 0x7d, 0x22, 0x34, 0x05, 0xd8, 0x22, 0x86, 0x42, 0xa4, 0x77, 0xbd, 0xa2, 0x55, 0xb3, 0x2a, 0xad, 0xbc, 0xe4, 0xbd, 0xa0, 0xb3, 0xf7, 0xe3, 0x6c, 0x9d, 0xa7], 28) := by decide +kernel

/-- V2. -/
theorem test_digestSha256 :
    after (fun t => (t.readBytes .dout 0 32, t.dlen)) (issue 0x00000313 { State.reset with s32h := #v[0xba7816bf, 0x8f01cfea, 0x414140de, 0x5dae2223, 0xb00361a3, 0x96177a9c, 0xb410ff61, 0xf20015ad] }) = some ([0xba, 0x78, 0x16, 0xbf, 0x8f, 0x01, 0xcf, 0xea, 0x41, 0x41, 0x40, 0xde, 0x5d, 0xae, 0x22, 0x23, 0xb0, 0x03, 0x61, 0xa3, 0x96, 0x17, 0x7a, 0x9c, 0xb4, 0x10, 0xff, 0x61, 0xf2, 0x00, 0x15, 0xad], 32) := by decide +kernel

/-- V34. -/
theorem test_digestSha384 :
    after (fun t => (t.readBytes .dout 0 48, t.dlen)) (issue 0x00000413 { State.reset with s64h := #v[0xcb00753f45a35e8b, 0xb5a03d699ac65007, 0x272c32ab0eded163, 0x1a8b605a43ff5bed, 0x8086072ba1e7cc23, 0x58baeca134c825a7, 0xa303edfdf3b89cd7, 0x0c66918ece57ba15] }) = some ([0xcb, 0x00, 0x75, 0x3f, 0x45, 0xa3, 0x5e, 0x8b, 0xb5, 0xa0, 0x3d, 0x69, 0x9a, 0xc6, 0x50, 0x07, 0x27, 0x2c, 0x32, 0xab, 0x0e, 0xde, 0xd1, 0x63, 0x1a, 0x8b, 0x60, 0x5a, 0x43, 0xff, 0x5b, 0xed, 0x80, 0x86, 0x07, 0x2b, 0xa1, 0xe7, 0xcc, 0x23, 0x58, 0xba, 0xec, 0xa1, 0x34, 0xc8, 0x25, 0xa7], 48) := by decide +kernel

/-- V32. -/
theorem test_digestSha512 :
    after (fun t => (t.readBytes .dout 0 64, t.dlen)) (issue 0x00000513 { State.reset with s64h := #v[0xddaf35a193617aba, 0xcc417349ae204131, 0x12e6fa4e89a97ea2, 0x0a9eeee64b55d39a, 0x2192992a274fc1a8, 0x36ba3c23a3feebbd, 0x454d4423643ce80e, 0x2a9ac94fa54ca49f] }) = some ([0xdd, 0xaf, 0x35, 0xa1, 0x93, 0x61, 0x7a, 0xba, 0xcc, 0x41, 0x73, 0x49, 0xae, 0x20, 0x41, 0x31, 0x12, 0xe6, 0xfa, 0x4e, 0x89, 0xa9, 0x7e, 0xa2, 0x0a, 0x9e, 0xee, 0xe6, 0x4b, 0x55, 0xd3, 0x9a, 0x21, 0x92, 0x99, 0x2a, 0x27, 0x4f, 0xc1, 0xa8, 0x36, 0xba, 0x3c, 0x23, 0xa3, 0xfe, 0xeb, 0xbd, 0x45, 0x4d, 0x44, 0x23, 0x64, 0x3c, 0xe8, 0x0e, 0x2a, 0x9a, 0xc9, 0x4f, 0xa5, 0x4c, 0xa4, 0x9f], 64) := by decide +kernel

/-- The reset state with KA, the lanes after those given 0. -/
def lanes (l : List Word64) : State := { State.reset with ka := Vector.ofFn fun i => l.getD i.val 0 }

/-- V42, R242. -/
theorem test_squeezeSha3_224 :
    after (fun t => (t.readBytes .dout 0 28, t.dlen)) (issue 0x00000613 (lanes [0xb7db673642034e6b, 0xabb10e4f45156e3b, 0x3f8e071b9a7f59d4, 0x4fcdb16dc76b5a5b])) = some ([0x6b, 0x4e, 0x03, 0x42, 0x36, 0x67, 0xdb, 0xb7, 0x3b, 0x6e, 0x15, 0x45, 0x4f, 0x0e, 0xb1, 0xab, 0xd4, 0x59, 0x7f, 0x9a, 0x1b, 0x07, 0x8e, 0x3f, 0x5b, 0x5a, 0x6b, 0xc7], 28) := by decide +kernel

/-- V3. -/
theorem test_squeezeSha3_256 :
    after (fun t => (t.readBytes .dout 0 32, t.dlen)) (issue 0x00000713 (lanes [0x66d71ebff8c6ffa7, 0x62d661a05647c151, 0xfa493be44dff80f5, 0x4a43f8804b0ad882])) = some ([0xa7, 0xff, 0xc6, 0xf8, 0xbf, 0x1e, 0xd7, 0x66, 0x51, 0xc1, 0x47, 0x56, 0xa0, 0x61, 0xd6, 0x62, 0xf5, 0x80, 0xff, 0x4d, 0xe4, 0x3b, 0x49, 0xfa, 0x82, 0xd8, 0x0a, 0x4b, 0x80, 0xf8, 0x43, 0x4a], 32) := by decide +kernel

/-- V44. -/
theorem test_squeezeSha3_384 :
    after (fun t => (t.readBytes .dout 0 8, t.dlen)) (issue 0x00000813 (lanes [0xc96f5188824901ec, 0x8dadc6e2589f4526, 0x258cc00fcb73b4f9, 0xb2e49be4f07cda96, 0xf5c77a92ea8cd898, 0x256d3728f2edf139])) = some ([0xec, 0x01, 0x49, 0x82, 0x88, 0x51, 0x6f, 0xc9], 48) := by decide +kernel

/-- R245. -/
theorem test_squeezeSha3_512 :
    after (fun t => (t.readBytes .dout 0 16, t.dlen)) (issue 0x00000913 (lanes [0xf1258f7940e1dde7, 0x84d5ccf933c0478a, 0xd598261ea65aa9ee, 0xbd1547306f80494d, 0x8b284e056253d057])) = some ([0xe7, 0xdd, 0xe1, 0x40, 0x79, 0x8f, 0x25, 0xf1, 0x8a, 0x47, 0xc0, 0x33, 0xf9, 0xcc, 0xd5, 0x84], 64) := by decide +kernel

/-- V42, V5, R246. -/
theorem test_squeezeShake128 :
    after (fun t => (t.readBytes .dout 0 32, t.dlen, t.ka[0])) (issue 0x00000a13 { lanes [0x5cbf18d82d098158, 0xa7cbfb93b7dda3f8, 0x5fd3a626c5d59740, 0xc82c0f945133b897] with olen := 32 }) = some ([0x58, 0x81, 0x09, 0x2d, 0xd8, 0x18, 0xbf, 0x5c, 0xf8, 0xa3, 0xdd, 0xb7, 0x93, 0xfb, 0xcb, 0xa7, 0x40, 0x97, 0xd5, 0xc5, 0x26, 0xa6, 0xd3, 0x5f, 0x97, 0xb8, 0x33, 0x51, 0x94, 0x0f, 0x2c, 0xc8], 32, 0x5cbf18d82d098158) := by decide +kernel

/-- R246: OLEN = 0 is legal. -/
theorem test_squeezeShake128_empty :
    after (fun t => (t.dlen, t.status)) (issue 0x00000a13 { small with dlen := 7 }) = some (0, 0) := by decide +kernel

/-- R247. -/
theorem test_squeezeShake256 :
    after (fun t => (t.readBytes .dout 0 32, t.dlen)) (issue 0x00000b13 { lanes [0x77a8601360663348, 0x4d11c40c0863681c, 0xeee1f1f83045b48d, 0x39578be737ea944f] with olen := 32 }) = some ([0x48, 0x33, 0x66, 0x60, 0x13, 0x60, 0xa8, 0x77, 0x1c, 0x68, 0x63, 0x08, 0x0c, 0xc4, 0x11, 0x4d, 0x8d, 0xb4, 0x45, 0x30, 0xf8, 0xf1, 0xe1, 0xee, 0x4f, 0x94, 0xea, 0x37, 0xe7, 0x8b, 0x57, 0x39], 32) := by decide +kernel

/-- V83p. -/
theorem test_squeezeShake256_capacity :
    after (fun t => (t.status, t.dlen)) (issue 0x00000b13 { small with olen := 65 }) = some (0x301, 0) := by decide +kernel

/-- V19. -/
theorem test_hashMd5_abc :
    after (fun t => (t.readBytes .dout 0 16, t.dlen, t.bidx)) (issue 0x00000014 abc) = some ([0x90, 0x01, 0x50, 0x98, 0x3c, 0xd2, 0x4f, 0xb0, 0xd6, 0x96, 0x3f, 0x7d, 0x28, 0xe1, 0x7f, 0x72], 16, 1) := by decide +kernel

/-- V22. -/
theorem test_hashSha1_abc :
    after (fun t => (t.readBytes .dout 0 20, t.dlen, t.bidx)) (issue 0x00000114 abc) = some ([0xa9, 0x99, 0x3e, 0x36, 0x47, 0x06, 0x81, 0x6a, 0xba, 0x3e, 0x25, 0x71, 0x78, 0x50, 0xc2, 0x6c, 0x9c, 0xd0, 0xd8, 0x9d], 20, 1) := by decide +kernel

/-- V35: one block; the digest length. -/
theorem test_hashSha224_abc :
    after (fun t => (t.plen, t.bidx, t.dlen)) (issue 0x00000214 abc) = some (64, 1, 28) := by decide +kernel

/-- V2. -/
theorem test_hashSha256_abc :
    after (fun t => (t.readBytes .dout 0 32, t.dlen, t.bidx)) (issue 0x00000314 abc) = some ([0xba, 0x78, 0x16, 0xbf, 0x8f, 0x01, 0xcf, 0xea, 0x41, 0x41, 0x40, 0xde, 0x5d, 0xae, 0x22, 0x23, 0xb0, 0x03, 0x61, 0xa3, 0x96, 0x17, 0x7a, 0x9c, 0xb4, 0x10, 0xff, 0x61, 0xf2, 0x00, 0x15, 0xad], 32, 1) := by decide +kernel

/-- V35: one block; the digest length. -/
theorem test_hashSha384_abc :
    after (fun t => (t.plen, t.bidx, t.dlen)) (issue 0x00000414 abc) = some (128, 1, 48) := by decide +kernel

/-- V35. -/
theorem test_hashSha512_abc :
    after (fun t => (t.readBytes .dout 0 64, t.dlen, t.bidx)) (issue 0x00000514 abc) = some ([0xdd, 0xaf, 0x35, 0xa1, 0x93, 0x61, 0x7a, 0xba, 0xcc, 0x41, 0x73, 0x49, 0xae, 0x20, 0x41, 0x31, 0x12, 0xe6, 0xfa, 0x4e, 0x89, 0xa9, 0x7e, 0xa2, 0x0a, 0x9e, 0xee, 0xe6, 0x4b, 0x55, 0xd3, 0x9a, 0x21, 0x92, 0x99, 0x2a, 0x27, 0x4f, 0xc1, 0xa8, 0x36, 0xba, 0x3c, 0x23, 0xa3, 0xfe, 0xeb, 0xbd, 0x45, 0x4d, 0x44, 0x23, 0x64, 0x3c, 0xe8, 0x0e, 0x2a, 0x9a, 0xc9, 0x4f, 0xa5, 0x4c, 0xa4, 0x9f], 64, 1) := by decide +kernel

/-- V83d: the tests are in order. -/
theorem test_hashSha256_order :
    after (fun t => t.status) (issue 0x00000314 { small with mlen := 0xffffffffffffffff }) = some (0x201) := by decide +kernel

/-- V83i. -/
theorem test_hashSha512_capacity :
    after (fun t => t.status) (issue 0x00000514 { small with mlen := 112 }) = some (0x301) := by decide +kernel

/-- V40, V46: one block; the digest length. -/
theorem test_hashSha3_224_abc :
    after (fun t => (t.plen, t.bidx, t.dlen, t.status)) (issue 0x00000614 { abc with olen := 32 }) = some (144, 1, 28, 0) := by decide +kernel

/-- V40, V46: one block; the digest length. -/
theorem test_hashSha3_256_abc :
    after (fun t => (t.plen, t.bidx, t.dlen, t.status)) (issue 0x00000714 { abc with olen := 32 }) = some (136, 1, 32, 0) := by decide +kernel

/-- V40, V46: one block; the digest length. -/
theorem test_hashSha3_384_abc :
    after (fun t => (t.plen, t.bidx, t.dlen, t.status)) (issue 0x00000814 { abc with olen := 32 }) = some (104, 1, 48, 0) := by decide +kernel

/-- V40, V46: one block; the digest length. -/
theorem test_hashSha3_512_abc :
    after (fun t => (t.plen, t.bidx, t.dlen, t.status)) (issue 0x00000914 { abc with olen := 32 }) = some (72, 1, 64, 0) := by decide +kernel

/-- V46. -/
theorem test_hashShake128_abc :
    after (fun t => (t.readBytes .dout 0 8, t.plen, t.bidx, t.dlen)) (issue 0x00000a14 { abc with olen := 32 }) = some ([0x58, 0x81, 0x09, 0x2d, 0xd8, 0x18, 0xbf, 0x5c], 168, 1, 32) := by decide +kernel

/-- V40, V46: one block; the digest length. -/
theorem test_hashShake256_abc :
    after (fun t => (t.plen, t.bidx, t.dlen, t.status)) (issue 0x00000b14 { abc with olen := 32 }) = some (136, 1, 32, 0) := by decide +kernel

/-- V83b. -/
theorem test_hashSha3_256_message :
    after (fun t => t.status) (issue 0x00000714 { small with mlen := 1025 }) = some (0x201) := by decide +kernel

/-- V83o: OLEN is not used by a variant of fixed length. -/
theorem test_hashSha3_512_olen :
    after (fun t => t.status) (issue 0x00000914 { small with olen := 65 }) = some (0) := by decide +kernel

/-- V83m. -/
theorem test_hashShake128_olen :
    after (fun t => (t.status, t.plen)) (issue 0x00000a14 { small with olen := 65 }) = some (0x301, 0) := by decide +kernel

/-- V83n: step 2 first. -/
theorem test_hashShake256_order :
    after (fun t => t.status) (issue 0x00000b14 { small with mlen := 1025, olen := 65 }) = some (0x201) := by decide +kernel

/-- V1, R275. -/
theorem test_hex :
    after (fun t => (t.readBytes .xout 0 32, t.xlen)) (issue 0x00000015 { State.reset with dout := cellsAt 0 [0xd4, 0x1d, 0x8c, 0xd9, 0x8f, 0x00, 0xb2, 0x04, 0xe9, 0x80, 0x09, 0x98, 0xec, 0xf8, 0x42, 0x7e], dlen := 16 }) = some ([0x64, 0x34, 0x31, 0x64, 0x38, 0x63, 0x64, 0x39, 0x38, 0x66, 0x30, 0x30, 0x62, 0x32, 0x30, 0x34, 0x65, 0x39, 0x38, 0x30, 0x30, 0x39, 0x39, 0x38, 0x65, 0x63, 0x66, 0x38, 0x34, 0x32, 0x37, 0x65], 32) := by decide +kernel

/-- R275: DLEN = 0 writes nothing. -/
theorem test_hex_empty :
    after (fun t => (t.xlen, t.xout)) (issue 0x00000015 { State.reset with xlen := 9 }) = some (0, []) := by decide +kernel

/-- R173: the first and the last row of its table, which the model takes from the table of R174. -/
theorem test_k256 :
    k256.take 4 = [0x428a2f98, 0x71374491, 0xb5c0fbcf, 0xe9b5dba5] ∧ k256.length = 64 ∧
      k256.drop 60 = [0x90befffa, 0xa4506ceb, 0xbef9a3f7, 0xc67178f2] := by decide

/-- V50: after round 0 only KA[0] is not zero, and it is RC[0]. -/
theorem test_keccakRound :
    keccakRound (Vector.replicate 25 0) (roundConst.getD 0 0) = (Vector.replicate 25 0).set 0 1 := by decide +kernel

/-- V50. -/
theorem test_keccakf :
    after (fun t => (t.ka[0], t.ka[24], t.bidx)) (issue 0x00000016 { State.reset with bidx := 5 }) = some (0xf1258f7940e1dde7, 0xeaf1ff7b5ceca249, 5) := by decide +kernel

/-! ## The host's primitives -/

/-- The step of one primitive. -/
def primitive (op : HostOp) (s : State) : Result := step (withOps s [op])

/-- V82: an illegal word. -/
theorem test_illegal_word : after (fun t => t) (issue 0x00001014 small) = some { small with status := 0x101 } := by
  decide +kernel

/-- V82: CMD keeps the low 32 bits of the value. -/
theorem test_cmd_low_bits :
    after (fun t => t.md5h[0]) (primitive (.regWrite 0x00 0x0000000100000010) small) = some 0x67452301 := by
  decide +kernel

/-- V84: while FAULT is 1 a command is ignored, and so is an illegal word. -/
theorem test_fault_sticky :
    issue 0x00000010 { small with status := 0x201 } = .next { small with status := 0x201 } ∧
      issue 0x00000000 { small with status := 0x201 } = .next { small with status := 0x201 } := by
  exact ⟨rfl, rfl⟩

/-- V84: a register write still works, and Reset clears the fault. -/
theorem test_fault_recovery :
    after (fun t => (t.mlen, t.status)) (primitive (.regWrite 0x02 5) { small with status := 0x201 }) = some (5, 0x201) ∧
      after (fun t => (t.mlen, t.status)) (primitive .reset { small with status := 0x201, mlen := 5 }) = some (0, 0) := by
  decide +kernel

/-- V85: writes to read-only and unassigned numbers do nothing. -/
theorem test_ignored_writes :
    ∀ k ∈ [0x01, 0x05, 0x06, 0x0a, 0x0b, 0x24, 0x2d, 0x59],
      after (fun t => t) (primitive (.regWrite k 7) small) = some small := by decide +kernel

/-- V85: a write to DOUT or XOUT, and one at MSG_CAP, does nothing. -/
theorem test_ignored_bytes :
    ∀ p ∈ [(Space.dout, 0), (Space.xout, 0), (Space.msg, 1024)],
      after (fun t => t) (primitive (.memWrite p.1 p.2 0x55) small) = some small := by decide +kernel

/-- V85: a register keeps the low bits of what is written to it. -/
theorem test_register_widths :
    after (fun t => t.s32h[0]) (primitive (.regWrite 0x30 0x1ffffffff) small) = some 0xffffffff ∧
      after (fun t => t.opb[0]) (primitive (.regWrite 0x10 0x1ff) small) = some 0xff ∧
      after (fun t => t.ka[24]) (primitive (.regWrite 0x58 0xffffffffffffffff) small) = some 0xffffffffffffffff := by
  decide +kernel

/-- V85, R310: what the host reads, of CMD, of an unassigned number, above capacity, and of a byte it wrote. -/
theorem test_reads :
    after (fun t => t.reads) (primitive (.regRead 0x00) small) = some [.reg 0x00 0] ∧
      after (fun t => t.reads) (primitive (.regRead 0x59) small) = some [.reg 0x59 0] ∧
      after (fun t => t.reads) (primitive (.memRead .msg 1024) small) = some [.mem .msg 1024 0] ∧
      after (fun t => t.reads) (primitive (.memRead .msg 1023) { small with msg := [(1023, 0x55)] }) =
        some [.mem .msg 1023 0x55] := by decide +kernel

/-- R32: a written byte, between two that stand. -/
theorem test_memory_write :
    after (fun t => t.msg) (primitive (.memWrite .msg 5 0x55) { small with msg := [(4, 1), (6, 2)] }) =
      some [(4, 1), (5, 0x55), (6, 2)] := by decide +kernel
/-! ## Witnesses: for every statement with hypotheses, values that meet them -/

/-- A state with a fault recorded. -/
def dead : State := { small with status := 0x201 }

/-- A configuration the witnesses of the PAD, SQUEEZE and HASH statements meet at its edges: MSG_CAP = 1024,
PBUF_CAP = 256, DOUT_CAP = 64. -/
def edge : State := { State.reset with cfg := ⟨1024, 256, 64⟩ }

/-- A state that is not the reset state and meets the invariant. -/
def busy : State :=
  { small with msg := [(0, 0x61)], mlen := 1, dout := [(0, 0xd4), (1, 0x1d)], dlen := 2, pending := [command .hex] }

theorem busy_inv : Safety.Inv busy where
  cfg := by decide
  status := by decide
  memory := fun sp => by cases sp <;> decide
  dlen := by decide
  xlen := by decide
  digest := fun a ha => by
    have h : a < 2 := ha
    interval_cases a <;> decide
  text := fun a ha => absurd ha (Nat.not_lt_zero a)

/-- IllegalWordsRaiseIllcmd: no fault recorded, and a word that is no command's. -/
theorem witness_IllegalWordsRaiseIllcmd : small.faulted = false ∧ ∀ i : Instr, (0x00000c10 : Word32) ≠ encode i :=
  ⟨by decide, fun i => by cases i <;> decide⟩

/-- StepRunsTheDecodedCommand, both clauses. -/
theorem witness_StepRunsTheDecodedCommand :
    (withOps small [.regWrite 0x00 0x0000000100000010]).pending = .regWrite 0x00 0x0000000100000010 :: [] ∧
      (withOps small [.regWrite 0x00 0x0000000100000010]).faulted = false ∧
      decode ((0x0000000100000010 : Word64).setWidth 32) = .instr .initMd5 ∧
      decodeTableWord 32 0x10 = some .initMd5 := by decide

/-- StepWaitsForTheHost. -/
theorem witness_StepWaitsForTheHost : small.pending = [] := rfl

/-- RegisterNumbersNameTheRegisters: the last clause at the edges of its ranges, which no register has. -/
theorem witness_RegisterNumbersNameTheRegisters :
    ∀ k ∈ [0x0b, 0x0f, 0x18, 0x1f, 0x24, 0x27, 0x2d, 0x2f, 0x59], Reg.ofNumber k = none := by decide

/-- HostRegisterWrite: a number of each width, at the edges of the ranges, and read-only and unassigned ones. -/
theorem witness_HostRegisterWrite :
    [0x01, 0x02, 0x04, 0x05, 0x06, 0x07, 0x09, 0x0a, 0x10, 0x17, 0x18, 0x20, 0x23, 0x24, 0x28, 0x2c, 0x2d].map rwWidth =
        [0, 64, 64, 0, 0, 64, 64, 0, 8, 8, 0, 32, 32, 0, 32, 32, 0] ∧
      [0x30, 0x37, 0x38, 0x3f, 0x40, 0x58, 0x59].map rwWidth = [32, 32, 64, 64, 64, 64, 0] := by decide

/-- HostMemoryWrite: the last address below each capacity and the first above. -/
theorem witness_HostMemoryWrite :
    1023 < capacityOf small.cfg .msg ∧ ¬1024 < capacityOf small.cfg .msg ∧ 199 < capacityOf small.cfg .pbuf ∧
      ¬200 < capacityOf small.cfg .pbuf ∧ 127 < capacityOf small.cfg .xout ∧ ¬128 < capacityOf small.cfg .xout := by
  decide

/-- LoadmsgLoadsTheMessage: the longest message and the empty one. -/
theorem witness_LoadmsgLoadsTheMessage :
    (List.replicate 1024 (0x61 : Byte)).length ≤ small.cfg.msgCap ∧
      (List.replicate 1024 (0x61 : Byte)).length < 2 ^ 64 ∧ ([] : List Byte).length ≤ small.cfg.msgCap := by decide +kernel

/-- FaultCodesReadBack. -/
theorem witness_FaultCodesReadBack : small.status = 0 := rfl

/-- FaultIsPrecise, its three clauses. -/
theorem witness_FaultIsPrecise :
    dead.faulted = true ∧ small.faulted = false ∧
      ∃ t, exec .compressMd5 small = .next t ∧ t.faulted = true := ⟨by decide, by decide, _, rfl, by decide⟩

/-- FaultConditions: a dead state, an illegal word, a command with each code, and one with none, the lengths at the
edge of each test. -/
theorem witness_FaultConditions :
    small.cfg.legal ∧ small.dlen.toNat ≤ small.cfg.doutCap ∧ dead.faulted = true ∧ small.faulted = false ∧
      (∀ i ∈ allVariants.map Variant.init ++ [.hex], (0x00000c10 : Word32) ≠ encode i) ∧
      faultOf { small with mlen := 1025 } .padMd5 = some .framing ∧ faultOf { small with mlen := 184 } .padSha1 = some .cap ∧
      faultOf { small with mlen := 183 } .padSha1 = none ∧ faultOf { small with plen := 63 } .compressMd5 = some .framing ∧
      faultOf { small with plen := 64 } .compressMd5 = none ∧ faultOf { small with plen := 201 } .compressMd5 = some .framing ∧
      faultOf { small with olen := 65 } .squeezeShake256 = some .cap ∧
      faultOf { small with olen := 64 } .hashShake128 = none ∧ faultOf small .hex = none := by decide

/-- FaultIsSticky, its four clauses. -/
theorem witness_FaultIsSticky :
    hostStep (.regWrite 0x00 0x10) dead = .next dead ∧ dead.faulted = true ∧
      (∃ t, hostStep (.regWrite 0x02 5) dead = .next t) ∧
      (∃ t, hostStep (.regWrite 0x00 0x12) small = .next t ∧ t.faulted = true ∧ small.faulted = false) ∧
      ∃ t, hostStep .reset dead = .next t :=
  ⟨rfl, by decide, ⟨_, rfl⟩, ⟨_, rfl, by decide, by decide⟩, _, rfl⟩

/-- StepKeepsTheInvariant. -/
theorem witness_StepKeepsTheInvariant : Safety.Inv busy ∧ ∃ t, step busy = .next t := ⟨busy_inv, _, rfl⟩

/-- StepIsTotal. -/
theorem witness_StepIsTotal : Safety.Inv busy ∧ busy.pending ≠ [] := ⟨busy_inv, by decide⟩

/-- OnlyTheNamedCommandsWrite. -/
theorem witness_OnlyTheNamedCommandsWrite : ∃ t, exec .rotl32 (operands 0x12345678 8) = .next t := ⟨_, rfl⟩

/-- A message in MSG, and a byte in PBUF that its padding overwrites. -/
def abcOverZero : State := { abc with pbuf := [(0, 0)] }

/-- `abcOverZero` but for what PAD.MD5 does not read: two registers, a byte of MSG above the message and a byte of PBUF. -/
def abcElsewhere : State :=
  { abcOverZero with opa := 7, plen := 999, msg := abc.msg ++ [(7, 1)], pbuf := [(0, 9)] }

/-- CommandsReadOnlyTheirOperands: PAD.MD5 in these two states, which differ in a register and in a byte that it changes
(PLEN, PBUF[0]) and agree on others (BIDX, MSG[0]). -/
theorem witness_CommandsReadOnlyTheirOperands :
    (∀ r, mayRead .padMd5 r → abcOverZero.getReg r = abcElsewhere.getReg r) ∧ abcOverZero.cfg = abcElsewhere.cfg ∧
      (∀ sp a, mayLoad .padMd5 abcOverZero sp a → abcOverZero.peek sp a = abcElsewhere.peek sp a) ∧
      abcOverZero.getReg .bidx = abcElsewhere.getReg .bidx ∧ abcOverZero.peek .msg 0 = abcElsewhere.peek .msg 0 ∧
      abcOverZero.getReg .plen ≠ abcElsewhere.getReg .plen ∧ abcOverZero.peek .pbuf 0 ≠ abcElsewhere.peek .pbuf 0 ∧
      ∃ t, exec .padMd5 abcOverZero = .next t ∧ t.getReg .plen ≠ abcOverZero.getReg .plen ∧
        t.peek .pbuf 0 ≠ abcOverZero.peek .pbuf 0 := by
  refine ⟨?_, rfl, ?_, rfl, rfl, by decide, by decide, _, rfl, by decide +kernel, by decide +kernel⟩
  · intro r hr
    cases r <;> first
    | rfl
    | simp [mayRead, allVariants, rotlRow, rotrRow, stwRow, Variant.blockCmd] at hr
  · rintro sp a (⟨_, rfl, ha⟩ | ⟨v, hv, _⟩ | ⟨h, _⟩)
    · have h3 : a < 3 := ha
      interval_cases a <;> rfl
    · cases v <;> cases hv
    · cases h

/-- RotationLaws: the amounts 0, w - 1, w and above. -/
theorem witness_RotationLaws :
    1 ≤ 8 ∧ 16 % 8 = 0 ∧ rotl (0x81 : Byte) 16 = 0x81 ∧ rotl (0x81 : Byte) 7 = 0xc0 ∧ rotr (0x81 : Byte) 1 = 0xc0 ∧
      rotl (1 : BitVec 1) 5 = 1 := by decide

/-- WordAssemblyLaws. -/
theorem witness_WordAssemblyLaws : ([1, 2, 3, 4] : List Byte).length = 32 / 8 ∧ [1, 2, 3, 4, 5, 6, 7, (8 : Byte)].length = 64 / 8 := by
  decide

/-- MerkleDamgardPad, each clause at its edge: 1024 bytes fill MSG; 191 + 8 bytes and 239 + 16 bytes are the longest
whose padded form is PBUF's 256 bytes. -/
theorem witness_MerkleDamgardPad :
    edge.cfg.legal ∧ edge.cfg.msgCap < (1025 : Word64).toNat ∧ (1024 : Word64).toNat ≤ edge.cfg.msgCap ∧
      edge.cfg.pbufCap < padTo 64 8 1024 ∧ edge.cfg.pbufCap < padTo 64 8 248 ∧ padTo 64 8 247 = edge.cfg.pbufCap ∧
      edge.cfg.pbufCap < padTo 128 16 240 ∧ padTo 128 16 239 = edge.cfg.pbufCap ∧ padTo 64 8 55 = 64 ∧
      padTo 64 8 56 = 128 ∧ padTo 128 16 111 = 128 ∧ padTo 128 16 112 = 256 := by decide

/-- SpongePad, each clause at its edge. -/
theorem witness_SpongePad :
    edge.cfg.legal ∧ edge.cfg.msgCap < (1025 : Word64).toNat ∧ (1024 : Word64).toNat ≤ edge.cfg.msgCap ∧
      (∀ r ∈ [144, 136, 104, 72, 168], edge.cfg.pbufCap < padTo r 0 1024 ∧ padTo r 0 (r - 1) = r ∧ padTo r 0 r = 2 * r ∧
        padTo r 0 (r - 1) ≤ edge.cfg.pbufCap) := by decide

/-- Md5AndSha1PadDifferInTheLengthField. -/
theorem witness_Md5AndSha1PadDifferInTheLengthField :
    abc.cfg.legal ∧ abc.mlen.toNat ≤ abc.cfg.msgCap ∧ padTo 64 8 abc.mlen.toNat ≤ abc.cfg.pbufCap := by decide

/-- The block statements (CompressMd5, CompressSha1, CompressSha2, AbsorbCommands): block 0 exactly inside PLEN, one
byte short, and PLEN at and above PBUF_CAP. -/
theorem witness_BlockRule :
    ∀ bs ∈ [64, 128, 144, 136, 104, 72, 168],
      blockTest { edge with plen := BitVec.ofNat 64 bs } bs = none ∧
        blockTest { edge with plen := BitVec.ofNat 64 (bs - 1) } bs = some .framing ∧
        blockTest { edge with plen := 256 } bs = none ∧ blockTest { edge with plen := 257 } bs = some .framing ∧
        blockTest { edge with plen := 256, bidx := 0xffffffffffffffff } bs = some .framing := by decide

/-- SqueezeCommands: OLEN at DOUT_CAP and above it. -/
theorem witness_SqueezeCommands :
    edge.cfg.legal ∧ (64 : Word64).toNat ≤ edge.cfg.doutCap ∧ edge.cfg.doutCap < (65 : Word64).toNat ∧
      28 ≤ edge.cfg.doutCap ∧ 32 ≤ edge.cfg.doutCap ∧ 48 ≤ edge.cfg.doutCap ∧ 64 ≤ edge.cfg.doutCap := by decide

/-- ShakeOutputsArePrefixes: 16 and 32 bytes of one state. -/
theorem witness_ShakeOutputsArePrefixes :
    State.ka { edge with olen := 16 } = State.ka { edge with olen := 32 } ∧ (16 : Word64).toNat ≤ (32 : Word64).toNat ∧
      edge.cfg.legal ∧ (32 : Word64).toNat ≤ edge.cfg.doutCap := by decide

/-- SqueezingTwice: 169 bytes run one permutation at rate 168, so that byte 5 of the second output is byte 173. -/
theorem witness_SqueezingTwice :
    State.reset.cfg.legal ∧ (169 : Word64).toNat ≤ State.reset.cfg.doutCap ∧ (10 : Word64).toNat ≤ State.reset.cfg.doutCap ∧
      (200 : Word64).toNat ≤ State.reset.cfg.doutCap ∧ 5 < (10 : Word64).toNat ∧
      168 * ((169 + 168 - 1) / 168 - 1) + 5 = 173 ∧ 173 < (200 : Word64).toNat := by decide

/-- HashCommands: each variant on "abc"; a message too long; a padded form and an output that do not fit. -/
theorem witness_HashCommands :
    (∀ v ∈ allVariants, Admits v { abc with olen := 1024 }) ∧ edge.cfg.msgCap < (1025 : Word64).toNat ∧
      (∀ v ∈ allVariants, edge.cfg.pbufCap < paddedLength v 1024) ∧
      edge.cfg.doutCap < outputLength .shake128 { edge with olen := 65 } ∧
      Admits .sha512 { edge with mlen := 239 } ∧ ¬Admits .sha512 { edge with mlen := 240 } := by
  unfold Admits
  decide

/-- HashIsTheStepSequence, InitAndPadCommute, HashhexIsTheTextOfTheDigest: one block and two. -/
theorem witness_HashIsTheStepSequence :
    Admits .md5 abc ∧ abc.faulted = false ∧ paddedLength .md5 abc.mlen.toNat / blockBytes .md5 = 1 ∧
      Admits .md5 { abc with mlen := 56 } ∧ paddedLength .md5 56 / blockBytes .md5 = 2 := by
  unfold Admits
  decide

/-- InitAndPadCommute. -/
theorem witness_InitAndPadCommute :
    abc.faulted = false ∧ abc.mlen.toNat ≤ abc.cfg.msgCap ∧ paddedLength .sha3_256 abc.mlen.toNat ≤ abc.cfg.pbufCap := by
  decide

/-- HashIsPure: two states that share a message and differ otherwise. -/
theorem witness_HashIsPure :
    Admits .shake128 { abc with olen := 32 } ∧
      Admits .shake128 { abc with olen := 32, cfg := ⟨1024, 200, 64⟩, opa := 7, bidx := 9, epoch := 2 } ∧
      ∀ a, a < 3 → State.peek { abc with olen := 32 } .msg a =
        State.peek { abc with olen := 32, cfg := ⟨1024, 200, 64⟩, opa := 7, bidx := 9, epoch := 2 } .msg a := by
  refine ⟨by unfold Admits; decide, by unfold Admits; decide, ?_⟩
  intro a ha
  interval_cases a <;> rfl

/-- HexCommand: DLEN at DOUT_CAP, and 0. -/
theorem witness_HexCommand :
    edge.cfg.legal ∧ State.dlen { edge with dlen := 64 } = 64 ∧ (64 : Word64).toNat ≤ edge.cfg.doutCap ∧
      edge.dlen.toNat ≤ edge.cfg.doutCap := by decide

/-- HexStopsAboveCapacity. -/
theorem witness_HexStopsAboveCapacity : edge.cfg.doutCap < (65 : Word64).toNat := by decide

/-- HashhexIsTheTextOfTheDigest. -/
theorem witness_HashhexIsTheTextOfTheDigest : Admits .sha256 abc ∧ abc.faulted = false := by
  unfold Admits
  decide

end Sys2Proof.Tests
end

section
/-! PROOFS. What the effects of a variant write and what they leave alone, said once for all twelve variants: the
padded message and the digest as byte strings, the frame of INIT.v, PAD.v and the block command, and when HASH.v
completes. -/

namespace Sys2Proof.Machine

/-- The padded form of a message under a variant (R134, R154, R177, R221). -/
def padBytes : Variant → List Byte → List Byte
  | .md5 => md5Pad
  | .sha1 => sha1Pad
  | .sha224 | .sha256 => sha2Pad32
  | .sha384 | .sha512 => sha2Pad64
  | .sha3_224 => spongePad 144 0x06
  | .sha3_256 => spongePad 136 0x06
  | .sha3_384 => spongePad 104 0x06
  | .sha3_512 => spongePad 72 0x06
  | .shake128 => spongePad 168 0x1f
  | .shake256 => spongePad 136 0x1f

/-- PAD.v stores the padded message and its length. -/
theorem padOf_eq (v : Variant) (s : State) :
    s.padOf v = s.storePadded (v.paddedLen s.mlen.toNat) (padBytes v s.message) := by
  cases v <;> rfl

theorem padBytes_length (v : Variant) (m : List Byte) : (padBytes v m).length = v.paddedLen m.length := by
  cases v with
  | md5 => exact md5Pad_length m
  | sha1 => exact sha1Pad_length m
  | sha224 | sha256 => exact sha2Pad32_length m
  | sha384 | sha512 => exact sha2Pad64_length m
  | sha3_224 | sha3_256 | sha3_384 | sha3_512 | shake128 | shake256 => exact spongePad_length _ (by decide) _ m

/-- The bytes DIGEST.v or SQUEEZE.v exposes (R136, R156, R190 to R193, R251). -/
def digestBytes (v : Variant) (s : State) : List Byte :=
  match v with
  | .md5 => s.md5h.toList.flatMap toLe
  | .sha1 => s.sha1h.toList.flatMap toBe
  | .sha224 => (s.s32h.toList.take 7).flatMap toBe
  | .sha256 => s.s32h.toList.flatMap toBe
  | .sha384 => (s.s64h.toList.take 6).flatMap toBe
  | .sha512 => s.s64h.toList.flatMap toBe
  | .sha3_224 | .sha3_256 | .sha3_384 | .sha3_512 | .shake128 | .shake256 =>
    (spongeSqueeze v.blockSize s.ka (s.outLen v)).1

/-- DIGEST.v or SQUEEZE.v stores the digest and its length; a SQUEEZE leaves other lanes in KA besides. -/
theorem outOf_eq (v : Variant) (s : State) :
    ∃ ka, s.outOf v = { s.storeDigest (s.outLen v) (digestBytes v s) with ka := ka } := by
  cases v <;> exact ⟨_, rfl⟩

theorem digestBytes_length (v : Variant) (s : State) : (digestBytes v s).length = s.outLen v := by
  cases v with
  | md5 => exact (flatMap_length toLe toLe_length _).trans (by simp [State.outLen])
  | sha1 | sha224 | sha256 | sha384 | sha512 =>
    exact (flatMap_length toBe toBe_length _).trans (by simp [State.outLen])
  | sha3_224 | sha3_256 | sha3_384 | sha3_512 | shake128 | shake256 =>
    exact spongeSqueeze_length _ (by decide) (by decide) _ _

/-- Byte `a` of a run written from address 0 is what is read there afterwards. -/
theorem getElem?_eq_peek_writeBytes (s : State) (sp : Space) {bs : List Byte} {a : Nat} (h : a < bs.length) :
    bs[a]? = some ((s.writeBytes sp 0 bs).peek sp a) := by
  rw [peek_writeBytes, dif_pos ⟨Nat.zero_le a, by omega⟩, List.getElem?_eq_getElem h]
  rfl

/-- After PAD.v, PBUF holds the padded message. -/
theorem peek_padOf (v : Variant) (s : State) {a : Nat} (h : a < v.paddedLen s.mlen.toNat) :
    (padBytes v s.message)[a]? = some ((s.padOf v).peek .pbuf a) := by
  rw [padOf_eq]
  exact getElem?_eq_peek_writeBytes s .pbuf (by rwa [padBytes_length, message_length])

/-- After DIGEST.v or SQUEEZE.v, DOUT holds the digest. -/
theorem peek_outOf (v : Variant) (s : State) {a : Nat} (h : a < s.outLen v) :
    (digestBytes v s)[a]? = some ((s.outOf v).peek .dout a) := by
  obtain ⟨ka, hout⟩ := outOf_eq v s
  rw [hout]
  exact getElem?_eq_peek_writeBytes s .dout (by rwa [digestBytes_length])

theorem outOf_dlen (v : Variant) (s : State) : (s.outOf v).dlen = BitVec.ofNat 64 (s.outLen v) := by
  cases v <;> rfl

/-! What INIT.v, PAD.v and the block command keep. -/

@[simp] theorem initOf_mlen (v : Variant) (s : State) : (s.initOf v).mlen = s.mlen := by cases v <;> rfl

@[simp] theorem initOf_cfg (v : Variant) (s : State) : (s.initOf v).cfg = s.cfg := by cases v <;> rfl

@[simp] theorem initOf_outLen (v : Variant) (s : State) : (s.initOf v).outLen v = s.outLen v := by cases v <;> rfl

theorem initOf_bidx (v : Variant) (s : State) : (s.initOf v).bidx = 0 := by cases v <;> rfl

theorem initOf_message (v : Variant) (s : State) : (s.initOf v).message = s.message := by cases v <;> rfl

@[simp] theorem padOf_cfg (v : Variant) (s : State) : (s.padOf v).cfg = s.cfg := by cases v <;> rfl

@[simp] theorem padOf_outLen (v : Variant) (s : State) : (s.padOf v).outLen v = s.outLen v := by cases v <;> rfl

@[simp] theorem iterate_blockOf_cfg (v : Variant) (n : Nat) (s : State) : ((State.blockOf v)^[n] s).cfg = s.cfg :=
  iterate_blockOf State.cfg (fun _ => by cases v <;> rfl) n s

@[simp] theorem iterate_blockOf_outLen (v : Variant) (n : Nat) (s : State) :
    ((State.blockOf v)^[n] s).outLen v = s.outLen v :=
  iterate_blockOf (State.outLen v) (fun _ => by cases v <;> rfl) n s

theorem padOf_bidx (v : Variant) (s : State) : (s.padOf v).bidx = s.bidx := by cases v <;> rfl

theorem blockOf_bidx (v : Variant) (s : State) : (s.blockOf v).bidx = s.bidx + 1 := by cases v <;> rfl

theorem blockOf_peek (v : Variant) (s : State) (sp : Space) (a : Nat) :
    (s.blockOf v).peek sp a = s.peek sp a :=
  peek_congr (by cases v <;> rfl) (by cases v <;> rfl) a

/-! HASH.v in the words of the claims. -/

theorem outputLength_eq (v : Variant) (s : State) : Claims.outputLength v s = s.outLen v := by cases v <;> rfl

theorem paddedLength_eq (v : Variant) (n : Nat) : Claims.paddedLength v n = v.paddedLen n := by cases v <;> rfl

/-- HASH.v completes where it is admitted. -/
theorem exec_hash_of_admits {v : Variant} {s : State} (h : Claims.Admits v s) : exec v.hash s = .next (s.hashOf v) := by
  obtain ⟨_, hm, hp, hL⟩ := h
  rw [paddedLength_eq] at hp
  rw [outputLength_eq] at hL
  rw [exec_hash, hashCommand_next hm hp hL]

/-- Where HASH.v is admitted the padded length fits PLEN. -/
theorem paddedLen_lt_of_admits {v : Variant} {s : State} (h : Claims.Admits v s) :
    v.paddedLen s.mlen.toNat < 2 ^ 64 := by
  obtain ⟨⟨_, _, hpbuf, _⟩, _, hp, _⟩ := h
  rw [paddedLength_eq] at hp
  omega

end Sys2Proof.Machine
end

section
/-! PROOFS. The invariant of CORE is kept by every step (O17): one lemma per state operation, then per effect, then per
primitive of the host. -/

namespace Sys2Proof.Safety

open Sys2Proof.Machine

/-- The part of the state the invariant speaks of. -/
def invView (s : State) : Config × Word32 × Word64 × Word64 × (Space → Memory) :=
  (s.cfg, s.status, s.dlen, s.xlen, s.mem)

theorem Inv.congr {s t : State} (hs : Inv s) (h : invView t = invView s) : Inv t := by
  simp only [invView, Prod.mk.injEq] at h
  obtain ⟨hcfg, hstatus, hdlen, hxlen, hmem⟩ := h
  obtain ⟨cfg, status, memory, dlen, xlen, digest, text⟩ := hs
  constructor <;> simp only [memoryLegal, written, hcfg, hstatus, hdlen, hxlen, hmem] <;> assumption

/-- A write unlists no byte. -/
theorem written_writeBytes {s : State} {sp' : Space} {n : Nat} (h : written s sp' n) (sp : Space) (a : Nat)
    (bs : List Byte) : written (s.writeBytes sp a bs) sp' n := by
  intro k hk
  by_cases hq : sp' = sp
  · subst hq
    rw [mem_writeBytes_same]
    exact isSome_get?_writeBytes (h k hk) a bs
  · rw [mem_writeBytes_other s a bs hq]
    exact h k hk

/-- A run written from address 0 is listed. -/
theorem written_of_writeBytes (s : State) (sp : Space) {bs : List Byte} {n : Nat} (hn : bs.length = n) :
    written (s.writeBytes sp 0 bs) sp n := by
  intro k hk
  rw [mem_writeBytes_same]
  exact Machine.written_writeBytes _ bs (hn ▸ hk)

/-- A write below the capacity keeps the invariant. -/
theorem Inv.writeBytes {s : State} (hs : Inv s) {sp : Space} {a : Nat} {bs : List Byte}
    (h : a + bs.length ≤ s.cfg.capacity sp) : Inv (s.writeBytes sp a bs) where
  cfg := by simpa using hs.cfg
  status := by simpa using hs.status
  memory q := by
    obtain ⟨hwf, hcap⟩ := hs.memory q
    by_cases hq : q = sp
    · subst hq
      rw [memoryLegal, writeBytes_cfg, mem_writeBytes_same]
      refine ⟨MemoryLaws.writeBytes_wf hwf a bs, fun x hx => ?_⟩
      rcases MemoryLaws.mem_writeBytes hx with hx | ⟨_, hx⟩
      · exact hcap x hx
      · omega
    · rw [memoryLegal, writeBytes_cfg, mem_writeBytes_other s a bs hq]
      exact ⟨hwf, hcap⟩
  dlen := by simpa using hs.dlen
  xlen := by simpa using hs.xlen
  digest := by simpa using written_writeBytes hs.digest sp a bs
  text := by simpa using written_writeBytes hs.text sp a bs

/-- DLEN may take any length that describes written bytes below DOUT_CAP. -/
theorem Inv.setDlen {s : State} (hs : Inv s) {n : Nat} (hn : n ≤ s.cfg.doutCap) (hw : written s .dout n) :
    Inv { s with dlen := BitVec.ofNat 64 n } where
  cfg := hs.cfg
  status := hs.status
  memory := hs.memory
  dlen := (Nat.mod_le n _).trans hn
  xlen := hs.xlen
  digest k hk := hw k (hk.trans_le (Nat.mod_le n _))
  text := hs.text

/-- XLEN may take any length that describes written bytes below the capacity of XOUT. -/
theorem Inv.setXlen {s : State} (hs : Inv s) {n : Nat} (hn : n ≤ 2 * s.cfg.doutCap) (hw : written s .xout n) :
    Inv { s with xlen := BitVec.ofNat 64 n } where
  cfg := hs.cfg
  status := hs.status
  memory := hs.memory
  dlen := hs.dlen
  xlen := (Nat.mod_le n _).trans hn
  digest := hs.digest
  text k hk := hw k (hk.trans_le (Nat.mod_le n _))

/-- KA is no part of the invariant. -/
theorem Inv.setKa {s : State} (hs : Inv s) (ka : Lanes) : Inv { s with ka := ka } :=
  hs.congr rfl

/-- A legal STATUS without FAULT is 0, and with FAULT and a code of R302 it is legal again. -/
theorem statusLegal_statusWithFault {st : Word32} (h : statusLegal st) (hf : st.getLsbD 0 = false) (c : FaultCode) :
    statusLegal (statusWithFault st c.code) := by
  rcases h with rfl | rfl | rfl | rfl
  · cases c <;> decide
  all_goals exact absurd hf (by decide)

theorem Inv.raised {s : State} (hs : Inv s) (c : FaultCode) : Inv (s.raised c) := by
  unfold State.raised
  split
  · exact hs
  next hf => exact { hs with status := statusLegal_statusWithFault hs.status (by simpa [State.faulted] using hf) c }

/-! The effects of the commands. -/

theorem Inv.initOf {s : State} (hs : Inv s) (v : Variant) : Inv (s.initOf v) :=
  hs.congr (by cases v <;> rfl)

theorem Inv.padOf {s : State} (hs : Inv s) {v : Variant} (h : v.paddedLen s.mlen.toNat ≤ s.cfg.pbufCap) :
    Inv (s.padOf v) := by
  have hlen : (padBytes v s.message).length = v.paddedLen s.mlen.toNat := by rw [padBytes_length, message_length]
  have hstored : Inv (s.writeBytes .pbuf 0 (padBytes v s.message)) := hs.writeBytes (by rwa [Nat.zero_add, hlen])
  rw [padOf_eq]
  exact hstored.congr rfl

theorem Inv.iterate_blockOf {s : State} (hs : Inv s) (v : Variant) (n : Nat) : Inv ((State.blockOf v)^[n] s) :=
  hs.congr (Machine.iterate_blockOf invView (fun _ => by cases v <;> rfl) n s)

theorem Inv.outOf {s : State} (hs : Inv s) {v : Variant} (h : s.outLen v ≤ s.cfg.doutCap) : Inv (s.outOf v) := by
  have hlen : (digestBytes v s).length = s.outLen v := digestBytes_length v s
  have hstored : Inv (s.writeBytes .dout 0 (digestBytes v s)) := hs.writeBytes (by rwa [Nat.zero_add, hlen])
  obtain ⟨ka, hout⟩ := outOf_eq v s
  rw [hout]
  exact (hstored.setDlen h (written_of_writeBytes s .dout hlen)).setKa ka

theorem Inv.hashOf {s : State} (hs : Inv s) {v : Variant} (hp : v.paddedLen s.mlen.toNat ≤ s.cfg.pbufCap)
    (hL : s.outLen v ≤ s.cfg.doutCap) : Inv (s.hashOf v) := by
  have hpad : Inv ((s.initOf v).padOf v) := (hs.initOf v).padOf (by simpa using hp)
  exact (hpad.iterate_blockOf v (s.blocksOf v)).outOf (by simpa using hL)

theorem Inv.hexOut {s : State} (hs : Inv s) : Inv s.hexOut := by
  have hlen : (hexText (s.readBytes .dout 0 s.dlen.toNat)).length = 2 * s.dlen.toNat := by simp
  have hcap : 2 * s.dlen.toNat ≤ 2 * s.cfg.doutCap := Nat.mul_le_mul_left 2 hs.dlen
  have hstored : Inv (s.writeBytes .xout 0 (hexText (s.readBytes .dout 0 s.dlen.toNat))) :=
    hs.writeBytes (by rwa [Nat.zero_add, hlen])
  exact hstored.setXlen hcap (written_of_writeBytes s .xout hlen)

/-- Every command keeps the invariant, whatever its kind. -/
theorem Inv.exec {s t : State} (hs : Inv s) {i : Instr} (h : exec i s = .next t) : Inv t := by
  cases exec_kind h with
  | raised c ht => exact ht ▸ hs.raised c
  | res _ ht | opb _ ht =>
    subst ht
    exact hs.congr rfl
  | keccakf ht => exact ht ▸ hs.setKa _
  | hex _ ht => exact ht ▸ hs.hexOut
  | init ht => exact ht ▸ hs.initOf _
  | pad _ hp ht => exact ht ▸ hs.padOf hp
  | block _ ht => exact ht ▸ hs.iterate_blockOf _ 1
  | out hL ht =>
    obtain ⟨_, _, _, hdout, _⟩ := hs.cfg
    exact ht ▸ hs.outOf (by omega)
  | hash _ hp hL ht => exact ht ▸ hs.hashOf hp hL

/-! The primitives of the host. -/

theorem Inv.issueCommand {s t : State} (hs : Inv s) {w : Word32} (h : issueCommand w s = .next t) : Inv t := by
  rcases issueCommand_cases h with ⟨_, rfl⟩ | ⟨_, rfl⟩ | ⟨_, i, _, hexec⟩
  · exact hs
  · exact hs.raised _
  · exact hs.exec hexec

/-- The host cannot write STATUS, DLEN or XLEN, and no other register is part of the invariant. -/
theorem invView_setReg (s : State) {r : Reg} (hr : r.access = .rw) (v : Word64) :
    invView (s.setReg r v) = invView s := by
  cases r with
  | status | dlen | xlen => exact absurd hr (by decide)
  | _ => rfl

theorem Inv.hostRegWrite {s t : State} (hs : Inv s) {k : Nat} {v : Word64} (h : hostRegWrite k v s = .next t) :
    Inv t := by
  by_cases hk : k = 0x00
  · subst hk
    exact hs.issueCommand (hostRegWrite_cmd v s ▸ h)
  · rcases hostRegWrite_cases hk h with rfl | ⟨r, _, hr, rfl⟩
    · exact hs
    · exact hs.congr (invView_setReg s hr v)

theorem Inv.hostMemWrite {s : State} (hs : Inv s) (sp : Space) (a : Nat) (b : Byte) : Inv (hostMemWrite sp a b s) := by
  rcases hostMemWrite_cases sp a b s with h | ⟨_, ha, h⟩ <;> rw [h]
  · exact hs
  · exact hs.writeBytes ha

/-- After Reset every memory is empty and every length 0. -/
theorem Inv.hostReset {s : State} (hs : Inv s) : Inv s.hostReset where
  cfg := hs.cfg
  status := .inl rfl
  memory sp := by cases sp <;> exact ⟨MemoryLaws.nil_wf, fun _ hx => absurd hx List.not_mem_nil⟩
  dlen := Nat.zero_le _
  xlen := Nat.zero_le _
  digest _ hk := absurd hk (Nat.not_lt_zero _)
  text _ hk := absurd hk (Nat.not_lt_zero _)

theorem Inv.hostStep {s t : State} (hs : Inv s) {op : HostOp} (h : hostStep op s = .next t) : Inv t := by
  cases op with
  | regRead k => exact hs.congr (next_inj h ▸ rfl)
  | regWrite k v => exact hs.hostRegWrite h
  | memRead sp a => exact hs.congr (next_inj h ▸ rfl)
  | memWrite sp a b => exact next_inj h ▸ hs.hostMemWrite sp a b
  | reset => exact next_inj h ▸ hs.hostReset

theorem Inv.step {s t : State} (hs : Inv s) (h : step s = .next t) : Inv t := by
  cases hp : s.pending with
  | nil => exact next_inj (step_nil hp ▸ h) ▸ hs
  | cons op rest =>
    have hs' : Inv { s with pending := rest } := hs.congr rfl
    exact hs'.hostStep (step_cons hp ▸ h)

/-- Settles O17: each primitive of the host keeps the invariant, a command by its kind. -/
theorem stepKeepsTheInvariant : Obligations.StepKeepsTheInvariant :=
  fun _ _ hs h => hs.step h

end Sys2Proof.Safety
end

section
/-! PROOFS. The digest is a function of the message, the variant and, for SHAKE, OLEN (O51): two runs of the effects of
HASH.v, side by side. They agree on the state file and on BIDX from INIT.v on, on PBUF[0..P) from PAD.v on, and so at the
end on the bytes exposed. -/

namespace Sys2Proof.Machine

/-- Two states agree on the state file of a variant (R260). -/
def SameFile (v : Variant) (s s' : State) : Prop :=
  match v with
  | .md5 => s.md5h = s'.md5h
  | .sha1 => s.sha1h = s'.sha1h
  | .sha224 | .sha256 => s.s32h = s'.s32h
  | .sha384 | .sha512 => s.s64h = s'.s64h
  | .sha3_224 | .sha3_256 | .sha3_384 | .sha3_512 | .shake128 | .shake256 => s.ka = s'.ka

/-- INIT.v sets the whole state file. -/
theorem sameFile_initOf (v : Variant) (s s' : State) : SameFile v (s.initOf v) (s'.initOf v) := by
  cases v <;> rfl

/-- PAD.v leaves the state file alone. -/
theorem sameFile_padOf {v : Variant} {s s' : State} (h : SameFile v s s') : SameFile v (s.padOf v) (s'.padOf v) := by
  cases v <;> exact h

/-- The block command makes the new state file from the old one and the block. -/
theorem sameFile_blockOf {v : Variant} {s s' : State} (h : SameFile v s s')
    (hb : s.block v.blockSize = s'.block v.blockSize) : SameFile v (s.blockOf v) (s'.blockOf v) := by
  cases v with
  | md5 => exact congrArg₂ md5Compress h hb
  | sha1 => exact congrArg₂ sha1Compress h hb
  | sha224 | sha256 => exact congrArg₂ (sha2Compress sha2At32) h hb
  | sha384 | sha512 => exact congrArg₂ (sha2Compress sha2At64) h hb
  | sha3_224 | sha3_256 | sha3_384 | sha3_512 | shake128 | shake256 => exact congrArg₂ (spongeAbsorb _) h hb

/-- The digest is made from the state file and the output length. -/
theorem digestBytes_congr {v : Variant} {s s' : State} (h : SameFile v s s') (hL : s.outLen v = s'.outLen v) :
    digestBytes v s = digestBytes v s' := by
  cases v <;> simp only [SameFile] at h <;> simp only [digestBytes, h, hL]

/-- The output length is fixed by the variant, but for SHAKE, where it is OLEN (R260). -/
theorem outLen_congr {v : Variant} {s s' : State} (h : v = .shake128 ∨ v = .shake256 → s.olen = s'.olen) :
    s.outLen v = s'.outLen v := by
  cases v with
  | shake128 | shake256 => exact congrArg BitVec.toNat (h (by decide))
  | _ => rfl

/-- Two runs of HASH.v side by side, between its effects: they agree on the state file, on BIDX and on the padded
message of `P` bytes. -/
structure Aligned (v : Variant) (P : Nat) (s s' : State) : Prop where
  file : SameFile v s s'
  bidx : s.bidx = s'.bidx
  pbuf : ∀ a, a < P → s.peek .pbuf a = s'.peek .pbuf a

/-- INIT.v and PAD.v align any two states with the same message. -/
theorem aligned_start (v : Variant) {s s' : State} (hn : s.mlen = s'.mlen)
    (hm : ∀ a, a < s.mlen.toNat → s.peek .msg a = s'.peek .msg a) :
    Aligned v (v.paddedLen s.mlen.toNat) ((s.initOf v).padOf v) ((s'.initOf v).padOf v) where
  file := sameFile_padOf (sameFile_initOf v s s')
  bidx := by rw [padOf_bidx, padOf_bidx, initOf_bidx, initOf_bidx]
  pbuf a ha := by
    have hmsg : (s.initOf v).message = (s'.initOf v).message := by
      rw [initOf_message, initOf_message]
      unfold State.message
      rw [hn]
      exact readBytes_congr fun i hi => by simpa using hm i (by rwa [hn])
    apply Option.some.inj
    rw [← peek_padOf v _ (by simpa using ha), ← peek_padOf v _ (by simpa [← hn] using ha), hmsg]

/-- A block command that finds its block inside the padded message keeps two runs aligned. -/
theorem Aligned.blockOf {v : Variant} {P : Nat} {s s' : State} (h : Aligned v P s s')
    (hP : v.blockSize * (s.bidx.toNat + 1) ≤ P) : Aligned v P (s.blockOf v) (s'.blockOf v) where
  file := by
    refine sameFile_blockOf h.file ?_
    unfold State.block
    rw [← h.bidx]
    exact readBytes_congr fun i hi => h.pbuf _ (by rw [Nat.mul_succ] at hP; omega)
  bidx := by rw [blockOf_bidx, blockOf_bidx, h.bidx]
  pbuf a ha := by rw [blockOf_peek, blockOf_peek, h.pbuf a ha]

/-- So do any number of block commands. -/
theorem Aligned.iterate_blockOf {v : Variant} {P n : Nat} {s s' : State} (h : Aligned v P s s')
    (hP : v.blockSize * (s.bidx.toNat + n) ≤ P) (h64 : P < 2 ^ 64) :
    Aligned v P ((State.blockOf v)^[n] s) ((State.blockOf v)^[n] s') := by
  induction n generalizing s s' with
  | zero => exact h
  | succ n ih =>
    have hn : s.bidx.toNat + (n + 1) ≤ P := (Nat.le_mul_of_pos_left _ v.blockSize_pos).trans hP
    have hbidx : (s.blockOf v).bidx.toNat = s.bidx.toNat + 1 := by
      rw [blockOf_bidx, BitVec.toNat_add_of_lt]
      · rfl
      · show s.bidx.toNat + 1 < 2 ^ 64
        omega
    rw [Function.iterate_succ_apply, Function.iterate_succ_apply]
    refine ih (h.blockOf ((Nat.mul_le_mul_left _ (by omega)).trans hP)) ?_
    rw [hbidx, Nat.add_assoc, Nat.add_comm 1 n]
    exact hP

/-- The P / bs blocks of HASH.v are the padded message. -/
theorem blockSize_mul_blocksOf (v : Variant) (s : State) :
    v.blockSize * s.blocksOf v = v.paddedLen s.mlen.toNat :=
  (v.paddedLen_blocks _).symm

/-- The state in which the output command of HASH.v runs. -/
def hashBlocks (v : Variant) (s : State) : State :=
  (State.blockOf v)^[s.blocksOf v] ((s.initOf v).padOf v)

theorem hashOf_eq (v : Variant) (s : State) : s.hashOf v = (hashBlocks v s).outOf v := rfl

@[simp] theorem hashBlocks_outLen (v : Variant) (s : State) : (hashBlocks v s).outLen v = s.outLen v := by
  simp [hashBlocks]

/-- After its blocks the state file of HASH.v is a function of the message. -/
theorem sameFile_hashBlocks (v : Variant) {s s' : State} (hn : s.mlen = s'.mlen)
    (hm : ∀ a, a < s.mlen.toNat → s.peek .msg a = s'.peek .msg a) (h64 : v.paddedLen s.mlen.toNat < 2 ^ 64) :
    SameFile v (hashBlocks v s) (hashBlocks v s') := by
  have hblocks : s'.blocksOf v = s.blocksOf v := by rw [State.blocksOf, State.blocksOf, hn]
  have hfit : v.blockSize * (((s.initOf v).padOf v).bidx.toNat + s.blocksOf v) ≤ v.paddedLen s.mlen.toNat := by
    rw [padOf_bidx, initOf_bidx, ← blockSize_mul_blocksOf]
    simp
  unfold hashBlocks
  rw [hblocks]
  exact ((aligned_start v hn hm).iterate_blockOf hfit h64).file

/-- HASH.v leaves in DOUT the digest its blocks came to. -/
theorem peek_hashOf (v : Variant) (s : State) {a : Nat} (h : a < s.outLen v) :
    (digestBytes v (hashBlocks v s))[a]? = some ((s.hashOf v).peek .dout a) :=
  peek_outOf v _ (by simpa using h)

theorem hashOf_dlen (v : Variant) (s : State) : (s.hashOf v).dlen = BitVec.ofNat 64 (s.outLen v) := by
  rw [hashOf_eq, outOf_dlen, hashBlocks_outLen]

/-- Settles O51: the two runs stay aligned up to the output command, which exposes the same bytes. -/
theorem hashIsPure : Obligations.HashIsPure := by
  intro v s s' hs hs' hn hm holen
  have hL : s.outLen v = s'.outLen v := outLen_congr holen
  have hdigest : digestBytes v (hashBlocks v s) = digestBytes v (hashBlocks v s') :=
    digestBytes_congr (sameFile_hashBlocks v hn hm (paddedLen_lt_of_admits hs)) (by simpa using hL)
  refine ⟨_, _, exec_hash_of_admits hs, exec_hash_of_admits hs', by rw [hashOf_dlen, hashOf_dlen, hL], fun a ha => ?_⟩
  have ha : a < s.outLen v := by
    rw [hashOf_dlen, BitVec.toNat_ofNat] at ha
    exact ha.trans_le (Nat.mod_le _ _)
  apply Option.some.inj
  rw [← peek_hashOf v s ha, ← peek_hashOf v s' (hL ▸ ha), hdigest]

end Sys2Proof.Machine
end

section
/-! PROOFS. What each effect leaves unchanged, as a frame (R301 and the effects of the commands), and with it which
command may write what (O19). -/

namespace Sys2Proof.Claims

open Sys2Proof.Machine

/-! Frames are reflexive, transitive and may be widened. -/

theorem Frame.refl (s : State) (regs : Reg → Prop) (bytes : Space → Nat → Prop) : Frame s s regs bytes :=
  ⟨fun _ _ => rfl, fun _ _ _ => rfl, rfl, rfl, rfl, rfl⟩

theorem Frame.getReg_eq {s t : State} {regs : Reg → Prop} {bytes : Space → Nat → Prop} (h : Frame s t regs bytes)
    {r : Reg} (hr : ¬regs r) : t.getReg r = s.getReg r :=
  h.1 r hr

theorem Frame.peek_eq {s t : State} {regs : Reg → Prop} {bytes : Space → Nat → Prop} (h : Frame s t regs bytes)
    {sp : Space} {a : Nat} (ha : ¬bytes sp a) : t.peek sp a = s.peek sp a :=
  h.2.1 sp a ha

/-- The model's own fields stand in every frame. -/
theorem Frame.own_eq {s t : State} {regs : Reg → Prop} {bytes : Space → Nat → Prop} (h : Frame s t regs bytes) :
    t.cfg = s.cfg ∧ t.epoch = s.epoch ∧ t.pending = s.pending ∧ t.reads = s.reads :=
  h.2.2

theorem Frame.trans {s t u : State} {regs : Reg → Prop} {bytes : Space → Nat → Prop} (hst : Frame s t regs bytes)
    (htu : Frame t u regs bytes) : Frame s u regs bytes := by
  obtain ⟨hcfg, hepoch, hpending, hreads⟩ := hst.own_eq
  obtain ⟨hcfg', hepoch', hpending', hreads'⟩ := htu.own_eq
  exact ⟨fun r hr => (htu.getReg_eq hr).trans (hst.getReg_eq hr), fun sp a ha => (htu.peek_eq ha).trans (hst.peek_eq ha),
    hcfg'.trans hcfg, hepoch'.trans hepoch, hpending'.trans hpending, hreads'.trans hreads⟩

theorem Frame.mono {s t : State} {regs regs' : Reg → Prop} {bytes bytes' : Space → Nat → Prop}
    (h : Frame s t regs bytes) (hr : ∀ r, regs r → regs' r) (hb : ∀ sp a, bytes sp a → bytes' sp a) :
    Frame s t regs' bytes' :=
  ⟨fun r hout => h.getReg_eq (mt (hr r) hout), fun sp a hout => h.peek_eq (mt (hb sp a) hout), h.own_eq⟩

/-- A frame that names no byte may name any. -/
theorem Frame.mono_noByte {s t : State} {regs regs' : Reg → Prop} (h : Frame s t regs noByte)
    (hr : ∀ r, regs r → regs' r) (bytes : Space → Nat → Prop) : Frame s t regs' bytes :=
  h.mono hr fun _ _ => False.elim

theorem mem_allVariants (v : Variant) : v ∈ allVariants := by cases v <;> decide

theorem mem_map_allVariants (f : Variant → Instr) (v : Variant) : f v ∈ allVariants.map f :=
  List.mem_map_of_mem (mem_allVariants v)

end Sys2Proof.Claims

namespace Sys2Proof.Machine

open Sys2Proof.Claims

/-- The six variants that run on KA (R260). -/
def spongeVariants : List Variant := [.sha3_224, .sha3_256, .sha3_384, .sha3_512, .shake128, .shake256]

theorem stateFile_ka_of_sponge {v : Variant} (hv : v ∈ spongeVariants) (j : Fin 25) : stateFile v (.ka j) := by
  cases v with
  | md5 | sha1 | sha224 | sha256 | sha384 | sha512 => exact absurd hv (by decide)
  | _ => exact ⟨j, rfl⟩

/-! The frame of each update of the state. -/

theorem getReg_writeBytes (s : State) (sp : Space) (a : Nat) (bs : List Byte) (r : Reg) :
    (s.writeBytes sp a bs).getReg r = s.getReg r := by
  cases r <;> simp [State.getReg]

theorem frame_writeBytes (s : State) (sp : Space) (a : Nat) (bs : List Byte) :
    Frame s (s.writeBytes sp a bs) noReg (fun sp' k => sp' = sp ∧ a ≤ k ∧ k < a + bs.length) := by
  refine ⟨fun r _ => getReg_writeBytes s sp a bs r, fun sp' k hk => ?_, by simp, by simp, by simp, by simp⟩
  by_cases hsp : sp' = sp
  · subst hsp
    rw [peek_writeBytes, dif_neg fun hin => hk ⟨rfl, hin⟩]
  · exact peek_writeBytes_other s a bs k hsp

theorem frame_setReg (s : State) (r : Reg) (v : Word64) : Frame s (s.setReg r v) (· = r) noByte := by
  obtain ⟨hmem, hcfg, hepoch, hpending, hreads⟩ := setReg_keeps s r v
  exact ⟨fun _ hr => getReg_setReg_other s v hr, fun sp a _ => peek_congr (hmem sp) hepoch a, hcfg, hepoch, hpending,
    hreads⟩

/-- A run of `n` bytes stored from address 0, and its length in a register. -/
theorem frame_storeRun (s : State) (sp : Space) (r : Reg) {bs : List Byte} {n : Nat} (hn : bs.length = n) (x : Word64) :
    Frame s ((s.writeBytes sp 0 bs).setReg r x) (· = r) (bytesBelow sp n) := by
  subst hn
  have hrun : Frame s (s.writeBytes sp 0 bs) (· = r) (bytesBelow sp bs.length) :=
    (frame_writeBytes s sp 0 bs).mono (fun _ => False.elim) fun _ _ ⟨hsp, _, ha⟩ => ⟨hsp, by omega⟩
  exact hrun.trans ((frame_setReg _ r x).mono_noByte (fun _ => id) _)

theorem frame_opb (s : State) (x : Vector Byte 8) : Frame s { s with opb := x } (fun r => ∃ j, r = .opb j) noByte := by
  refine ⟨fun r hr => ?_, fun _ _ _ => rfl, rfl, rfl, rfl, rfl⟩
  cases r with
  | opb j => exact absurd ⟨j, rfl⟩ hr
  | _ => rfl

theorem frame_replaceFirst (s : State) (bs : List Byte) : Frame s { s with opb := replaceFirst s.opb bs }
    (fun r => ∃ j : Fin 8, j.val < bs.length ∧ r = .opb j) noByte := by
  refine ⟨fun r hr => ?_, fun _ _ _ => rfl, rfl, rfl, rfl, rfl⟩
  cases r with
  | opb j =>
    have hj : bs.length ≤ j.val := by
      by_contra hj
      exact hr ⟨j, by omega, rfl⟩
    simp [State.getReg, replaceFirst, hj]
  | _ => rfl

theorem frame_md5h (s : State) (H : Vector Word32 4) :
    Frame s { s with md5h := H } (fun r => ∃ j, r = .md5h j) noByte := by
  refine ⟨fun r hr => ?_, fun _ _ _ => rfl, rfl, rfl, rfl, rfl⟩
  cases r with
  | md5h j => exact absurd ⟨j, rfl⟩ hr
  | _ => rfl

theorem frame_sha1h (s : State) (H : Vector Word32 5) :
    Frame s { s with sha1h := H } (fun r => ∃ j, r = .sha1h j) noByte := by
  refine ⟨fun r hr => ?_, fun _ _ _ => rfl, rfl, rfl, rfl, rfl⟩
  cases r with
  | sha1h j => exact absurd ⟨j, rfl⟩ hr
  | _ => rfl

theorem frame_s32h (s : State) (H : Vector Word32 8) :
    Frame s { s with s32h := H } (fun r => ∃ j, r = .s32h j) noByte := by
  refine ⟨fun r hr => ?_, fun _ _ _ => rfl, rfl, rfl, rfl, rfl⟩
  cases r with
  | s32h j => exact absurd ⟨j, rfl⟩ hr
  | _ => rfl

theorem frame_s64h (s : State) (H : Vector Word64 8) :
    Frame s { s with s64h := H } (fun r => ∃ j, r = .s64h j) noByte := by
  refine ⟨fun r hr => ?_, fun _ _ _ => rfl, rfl, rfl, rfl, rfl⟩
  cases r with
  | s64h j => exact absurd ⟨j, rfl⟩ hr
  | _ => rfl

theorem frame_ka (s : State) (A : Lanes) : Frame s { s with ka := A } (fun r => ∃ j, r = .ka j) noByte := by
  refine ⟨fun r hr => ?_, fun _ _ _ => rfl, rfl, rfl, rfl, rfl⟩
  cases r with
  | ka j => exact absurd ⟨j, rfl⟩ hr
  | _ => rfl

/-- A state file replaced, and then BIDX. -/
theorem frame_setBidx {v : Variant} {s t : State} (h : Frame s t (stateFile v) noByte) (x : Word64) :
    Frame s (t.setReg .bidx x) (fun r => r = .bidx ∨ stateFile v r) noByte :=
  (h.mono_noByte (fun _ => .inr) _).trans ((frame_setReg t .bidx x).mono_noByte (fun _ => .inl) _)

/-! The frame of each effect. -/

theorem frame_raised (s : State) (c : FaultCode) : Frame s (s.raised c) (· = .status) noByte := by
  rw [raised_eq]
  refine ⟨fun r hr => ?_, fun _ _ _ => rfl, rfl, rfl, rfl, rfl⟩
  cases r with
  | status => exact absurd rfl hr
  | _ => rfl

theorem frame_initOf (v : Variant) (s : State) :
    Frame s (s.initOf v) (fun r => r = .bidx ∨ stateFile v r) noByte := by
  cases v with
  | md5 => exact frame_setBidx (v := .md5) (frame_md5h s md5Iv) 0
  | sha1 => exact frame_setBidx (v := .sha1) (frame_sha1h s sha1Iv) 0
  | sha224 => exact frame_setBidx (v := .sha224) (frame_s32h s iv224) 0
  | sha256 => exact frame_setBidx (v := .sha256) (frame_s32h s iv256) 0
  | sha384 => exact frame_setBidx (v := .sha384) (frame_s64h s iv384) 0
  | sha512 => exact frame_setBidx (v := .sha512) (frame_s64h s iv512) 0
  | sha3_224 | sha3_256 | sha3_384 | sha3_512 | shake128 | shake256 =>
    exact frame_setBidx (v := .shake256) (frame_ka s (Vector.replicate 25 0)) 0

theorem frame_blockOf (v : Variant) (s : State) :
    Frame s (s.blockOf v) (fun r => r = .bidx ∨ stateFile v r) noByte := by
  cases v with
  | md5 => exact frame_setBidx (v := .md5) (frame_md5h s _) (s.bidx + 1)
  | sha1 => exact frame_setBidx (v := .sha1) (frame_sha1h s _) (s.bidx + 1)
  | sha224 | sha256 => exact frame_setBidx (v := .sha256) (frame_s32h s _) (s.bidx + 1)
  | sha384 | sha512 => exact frame_setBidx (v := .sha512) (frame_s64h s _) (s.bidx + 1)
  | sha3_224 | sha3_256 | sha3_384 | sha3_512 | shake128 | shake256 =>
    exact frame_setBidx (v := .shake256) (frame_ka s _) (s.bidx + 1)

theorem frame_iterate_blockOf (v : Variant) (n : Nat) (s : State) :
    Frame s ((State.blockOf v)^[n] s) (fun r => r = .bidx ∨ stateFile v r) noByte := by
  induction n with
  | zero => exact .refl s _ _
  | succ n ih =>
    rw [Function.iterate_succ_apply']
    exact ih.trans (frame_blockOf v _)

theorem frame_padOf (v : Variant) (s : State) :
    Frame s (s.padOf v) (· = .plen) (bytesBelow .pbuf (v.paddedLen s.mlen.toNat)) := by
  have hlen : (padBytes v s.message).length = v.paddedLen s.mlen.toNat := by rw [padBytes_length, message_length]
  rw [padOf_eq]
  exact frame_storeRun s .pbuf .plen hlen _

/-- DIGEST.v writes DLEN and the digest; SQUEEZE.v writes KA too. -/
theorem frame_outOf (v : Variant) (s : State) :
    Frame s (s.outOf v) (fun r => r = .dlen ∨ (v ∈ spongeVariants ∧ ∃ j, r = .ka j))
      (bytesBelow .dout (s.outLen v)) := by
  have hdigest : Frame s (s.storeDigest (s.outLen v) (digestBytes v s))
      (fun r => r = .dlen ∨ (v ∈ spongeVariants ∧ ∃ j, r = .ka j)) (bytesBelow .dout (s.outLen v)) :=
    (frame_storeRun s .dout .dlen (digestBytes_length v s) _).mono (fun _ => .inl) fun _ _ => id
  cases v with
  | md5 | sha1 | sha224 | sha256 | sha384 | sha512 => exact hdigest
  | sha3_224 | sha3_256 | sha3_384 | sha3_512 | shake128 | shake256 =>
    exact hdigest.trans ((frame_ka _ _).mono_noByte (fun _ hr => .inr ⟨by decide, hr⟩) _)

theorem frame_hexOut (s : State) : Frame s s.hexOut (· = .xlen) (bytesBelow .xout (2 * s.dlen.toNat)) :=
  frame_storeRun s .xout .xlen (by simp) _

/-- The registers HASH.v writes (R262). -/
def hashRegs (v : Variant) (r : Reg) : Prop := r = .plen ∨ r = .dlen ∨ r = .bidx ∨ stateFile v r

/-- The bytes HASH.v writes: the padded message and the digest (R262). -/
def hashBytes (v : Variant) (s : State) (sp : Space) (a : Nat) : Prop :=
  bytesBelow .pbuf (v.paddedLen s.mlen.toNat) sp a ∨ bytesBelow .dout (s.outLen v) sp a

theorem frame_hashOf (v : Variant) (s : State) : Frame s (s.hashOf v) (hashRegs v) (hashBytes v s) := by
  have hfile : ∀ r, r = .bidx ∨ stateFile v r → hashRegs v r := fun _ h => .inr (.inr h)
  have hinit := (frame_initOf v s).mono_noByte hfile (hashBytes v s)
  have hpad : Frame (s.initOf v) ((s.initOf v).padOf v) (hashRegs v) (hashBytes v s) :=
    (frame_padOf v (s.initOf v)).mono (fun _ => .inl) fun sp a h => .inl (by simpa using h)
  have hblocks := (frame_iterate_blockOf v (s.blocksOf v) ((s.initOf v).padOf v)).mono_noByte hfile (hashBytes v s)
  have hout : Frame (hashBlocks v s) (s.hashOf v) (hashRegs v) (hashBytes v s) := by
    refine (frame_outOf v (hashBlocks v s)).mono ?_ fun sp a h => .inr (by simpa using h)
    rintro r (rfl | ⟨hv, j, rfl⟩)
    · exact .inr (.inl rfl)
    · exact hfile _ (.inr (stateFile_ka_of_sponge hv j))
  exact ((hinit.trans hpad).trans hblocks).trans hout

/-! Which command may write what. -/

/-- INIT.v, the block command and HASH.v may write BIDX and the state file of `v`. -/
theorem mayWrite_bidx_or_stateFile {v : Variant} {r : Reg} (h : r = .bidx ∨ stateFile v r) :
    mayWrite v.init r ∧ mayWrite v.blockCmd r ∧ mayWrite v.hash r := by
  rcases h with rfl | h
  · exact ⟨List.mem_append_left _ (List.mem_append_left _ (mem_map_allVariants _ v)),
      List.mem_append_left _ (List.mem_append_right _ (mem_map_allVariants _ v)),
      List.mem_append_right _ (mem_map_allVariants _ v)⟩
  · cases v <;> obtain ⟨j, rfl⟩ := h <;> simp [mayWrite, Variant.init, Variant.blockCmd, Variant.hash]

theorem mayWrite_ka_out {v : Variant} (hv : v ∈ spongeVariants) (j : Fin 25) : mayWrite v.out (.ka j) :=
  .inr ⟨v, hv, .inr (.inr (.inl rfl))⟩

/-- Settles O19: the frame of each kind of command lies inside the table. -/
theorem onlyTheNamedCommandsWrite : Obligations.OnlyTheNamedCommandsWrite := by
  intro i s t h
  cases exec_kind h with
  | raised c ht => exact ht ▸ (frame_raised s c).mono_noByte (fun r hr => hr ▸ trivial) _
  | res hi ht => exact ht ▸ (frame_setReg s .res _).mono_noByte (fun r hr => hr ▸ hi) _
  | opb hi ht => exact ht ▸ (frame_opb s _).mono_noByte (fun r ⟨j, hr⟩ => hr ▸ hi) _
  | keccakf ht => exact ht ▸ (frame_ka s _).mono_noByte (fun r ⟨j, hr⟩ => hr ▸ .inl rfl) _
  | hex _ ht => exact ht ▸ (frame_hexOut s).mono (fun r hr => hr ▸ rfl) fun sp a ⟨hsp, _⟩ => hsp ▸ rfl
  | init ht => exact ht ▸ (frame_initOf _ s).mono_noByte (fun r hr => (mayWrite_bidx_or_stateFile hr).1) _
  | @pad v _ _ ht =>
    have hpad : v.pad ∈ allVariants.map Variant.pad ++ allVariants.map Variant.hash :=
      List.mem_append_left _ (mem_map_allVariants _ v)
    exact ht ▸ (frame_padOf v s).mono (fun r hr => hr ▸ hpad) fun sp a ⟨hsp, _⟩ => hsp ▸ hpad
  | block _ ht => exact ht ▸ (frame_blockOf _ s).mono_noByte (fun r hr => (mayWrite_bidx_or_stateFile hr).2.1) _
  | @out v _ ht =>
    have hout : v.out ∈ allVariants.map Variant.out ++ allVariants.map Variant.hash :=
      List.mem_append_left _ (mem_map_allVariants _ v)
    refine ht ▸ (frame_outOf v s).mono ?_ fun sp a ⟨hsp, _⟩ => hsp ▸ hout
    rintro r (rfl | ⟨hv, j, rfl⟩)
    · exact hout
    · exact mayWrite_ka_out hv j
  | @hash v _ _ _ ht =>
    have hhash : ∀ l, v.hash ∈ l ++ allVariants.map Variant.hash :=
      fun l => List.mem_append_right l (mem_map_allVariants _ v)
    refine ht ▸ (frame_hashOf v s).mono ?_ ?_
    · rintro r (rfl | rfl | hr)
      · exact hhash _
      · exact hhash _
      · exact (mayWrite_bidx_or_stateFile hr).2.2
    · rintro sp a (⟨rfl, _⟩ | ⟨rfl, _⟩)
      · exact hhash _
      · exact hhash _

end Sys2Proof.Machine
end

section
/-! PROOFS. The host's side of the registers and memories: what a host read returns (O6), what it returns after a host
write (O7, O8) and after Reset (O10, O16), and what each primitive does to STATUS (O15). -/

namespace Sys2Proof

/-- The width of each register in bits (R24, R25, R27 to R31). -/
def Reg.width : Reg → Nat
  | .opb _ => 8
  | .status | .md5h _ | .sha1h _ | .s32h _ => 32
  | .cmd | .mlen | .plen | .olen | .dlen | .xlen | .bidx | .opa | .opn | .res | .s64h _ | .ka _ => 64

/-- The claims' table of widths, read by register. -/
theorem rwWidth_number (r : Reg) : Claims.rwWidth r.number = if r.access = .rw then r.width else 0 := by
  cases r with
  | opb i | md5h i | sha1h i | s32h i | s64h i | ka i => revert i; decide
  | _ => rfl

/-- An unassigned number has no width. -/
theorem rwWidth_of_ofNumber_none {k : Nat} (h : Reg.ofNumber k = none) : Claims.rwWidth k = 0 := by
  by_cases hk : k < 0x59
  · have hbelow : ∀ k, k < 0x59 → Reg.ofNumber k = none → Claims.rwWidth k = 0 := by decide
    exact hbelow k hk h
  · unfold Claims.rwWidth
    rw [if_neg (by omega), if_neg (by omega), if_neg (by omega), if_neg (by omega)]

theorem Reg.width_pos (r : Reg) : 0 < r.width := by cases r <;> exact Nat.zero_lt_succ _

/-- A register is writable when its number has a width. -/
theorem rwWidth_number_pos (r : Reg) : 0 < Claims.rwWidth r.number ↔ r.access = .rw := by
  rw [rwWidth_number]
  split
  · simp [*, Reg.width_pos]
  · simp [*]

theorem Space.access_eq_rw (sp : Space) : sp.access = .rw ↔ sp = .msg ∨ sp = .pbuf := by
  cases sp <;> decide

theorem capacityOf_eq (c : Config) (sp : Space) : Claims.capacityOf c sp = c.capacity sp := by
  cases sp <;> rfl

end Sys2Proof

namespace Sys2Proof.Machine

open Sys2Proof.Claims

/-- A number reads the register it names, CMD as 0. -/
theorem hostRegRead_of_ofNumber {s : State} {k : Nat} {r : Reg} (h : Reg.ofNumber k = some r) :
    s.hostRegRead k = s.getReg r := by
  unfold State.hostRegRead
  rw [h]
  cases r <;> rfl

theorem hostRegRead_of_ofNumber_none {s : State} {k : Nat} (h : Reg.ofNumber k = none) : s.hostRegRead k = 0 := by
  unfold State.hostRegRead
  rw [h]

theorem hostRegRead_number (s : State) (r : Reg) : s.hostRegRead r.number = s.getReg r :=
  hostRegRead_of_ofNumber r.ofNumber_number

theorem setWidth_setWidth_eq_ofNat (v : Word64) (w : Nat) :
    (v.setWidth w).setWidth 64 = BitVec.ofNat 64 (v.toNat % 2 ^ w) :=
  BitVec.eq_of_toNat_eq (by simp)

/-- A register other than CMD reads back as the value cut to its width. -/
theorem getReg_setReg_same (s : State) {r : Reg} (hr : r ≠ .cmd) (v : Word64) :
    (s.setReg r v).getReg r = BitVec.ofNat 64 (v.toNat % 2 ^ r.width) := by
  rw [← setWidth_setWidth_eq_ofNat]
  cases r with
  | cmd => exact absurd rfl hr
  | _ => simp [State.setReg, State.getReg, Reg.width]

/-- Settles O6: each number reads the register it names. -/
theorem registerNumbersNameTheRegisters : Obligations.RegisterNumbersNameTheRegisters := by
  intro s
  have hnumber := hostRegRead_number s
  refine ⟨hnumber .status, hnumber .mlen, hnumber .plen, hnumber .olen, hnumber .dlen, hnumber .xlen, hnumber .bidx,
    hnumber .opa, hnumber .opn, hnumber .res, fun j => hnumber (.opb j), fun j => hnumber (.md5h j),
    fun j => hnumber (.sha1h j), fun j => hnumber (.s32h j), fun j => hnumber (.s64h j), fun j => hnumber (.ka j),
    fun k hk => ?_⟩
  cases h : Reg.ofNumber k with
  | none => exact hostRegRead_of_ofNumber_none h
  | some r =>
    rw [hostRegRead_of_ofNumber h]
    have hr : r.number = k := Reg.number_of_ofNumber h
    cases r <;> simp only [Reg.number] at hr
    case cmd => rfl
    all_goals omega

/-- What a host write to an assigned number other than CMD's does. -/
theorem hostRegWrite_of_ofNumber {k : Nat} {r : Reg} (h : Reg.ofNumber k = some r) (hr : r ≠ .cmd) (v : Word64)
    (s : State) : hostRegWrite k v s = if r.access = .rw then .next (s.setReg r v) else .next s := by
  unfold hostRegWrite
  rw [h]
  cases r with
  | cmd => exact absurd rfl hr
  | _ => rfl

/-- What a host write to an unassigned number does. -/
theorem hostRegWrite_of_ofNumber_none {k : Nat} (h : Reg.ofNumber k = none) (v : Word64) (s : State) :
    hostRegWrite k v s = .next s := by
  unfold hostRegWrite
  rw [h]

/-- After a write to a register other than CMD its number reads the value cut to its width, every other number what it
read before. -/
theorem hostRegRead_setReg (s : State) {r : Reg} (hr : r ≠ .cmd) (v : Word64) (k : Nat) :
    (s.setReg r v).hostRegRead k =
      if k = r.number then BitVec.ofNat 64 (v.toNat % 2 ^ r.width) else s.hostRegRead k := by
  by_cases hk : k = r.number
  · rw [if_pos hk, hk, hostRegRead_number, getReg_setReg_same s hr]
  · rw [if_neg hk]
    cases h : Reg.ofNumber k with
    | none => rw [hostRegRead_of_ofNumber_none h, hostRegRead_of_ofNumber_none h]
    | some r' =>
      have hr' : r' ≠ r := fun heq => hk (heq ▸ (Reg.number_of_ofNumber h).symm)
      rw [hostRegRead_of_ofNumber h, hostRegRead_of_ofNumber h, getReg_setReg_other s v hr']

/-- Settles O7: an unassigned number and a register the host may not write are left alone, and a writable register
takes the value cut to its width. -/
theorem hostRegisterWrite : Obligations.HostRegisterWrite := by
  intro s k v hk
  have hignored (hw : ¬0 < rwWidth k) (k' : Nat) : s.hostRegRead k' =
      if k' = k ∧ 0 < rwWidth k then BitVec.ofNat 64 (v.toNat % 2 ^ rwWidth k) else s.hostRegRead k' := by
    rw [if_neg fun h => hw h.2]
  cases h : Reg.ofNumber k with
  | none =>
    have hw : ¬0 < rwWidth k := by simp [rwWidth_of_ofNumber_none h]
    exact ⟨s, hostRegWrite_of_ofNumber_none h v s, hignored hw, fun _ _ => rfl, rfl, rfl, rfl, rfl⟩
  | some r =>
    have hnum : r.number = k := Reg.number_of_ofNumber h
    have hr : r ≠ .cmd := fun hr => hk (by rw [← hnum, hr]; rfl)
    have hw : rwWidth k = if r.access = .rw then r.width else 0 := hnum ▸ rwWidth_number r
    have hstep : hostStep (.regWrite k v) s = _ := hostRegWrite_of_ofNumber h hr v s
    by_cases hrw : r.access = .rw
    · rw [if_pos hrw] at hw hstep
      have hframe := frame_setReg s r v
      refine ⟨_, hstep, fun k' => ?_, fun sp a => hframe.peek_eq id, hframe.own_eq⟩
      rw [hostRegRead_setReg s hr, hnum, hw]
      simp only [r.width_pos, and_true]
    · rw [if_neg hrw] at hw hstep
      exact ⟨s, hstep, hignored (by simp [hw]), fun _ _ => rfl, rfl, rfl, rfl, rfl⟩

theorem hostMemWrite_eq (sp : Space) (a : Nat) (b : Byte) (s : State) :
    hostMemWrite sp a b s =
      if (sp = .msg ∨ sp = .pbuf) ∧ a < capacityOf s.cfg sp then s.writeBytes sp a [b] else s := by
  simp only [hostMemWrite, Space.access_eq_rw, capacityOf_eq]

/-- Settles O8: the write reaches one byte of MSG or PBUF, or nothing. -/
theorem hostMemoryWrite : Obligations.HostMemoryWrite := by
  refine ⟨fun s sp a b => ⟨_, rfl, ?_⟩, fun s sp a => ?_⟩
  · rw [hostMemWrite_eq]
    by_cases h : (sp = .msg ∨ sp = .pbuf) ∧ a < capacityOf s.cfg sp
    · have hframe := frame_writeBytes s sp a [b]
      rw [if_pos h]
      refine ⟨fun sp' a' => ?_, fun r => hframe.getReg_eq id, hframe.own_eq⟩
      by_cases hat : sp' = sp ∧ a' = a
      · obtain ⟨rfl, rfl⟩ := hat
        rw [if_pos ⟨rfl, rfl, h⟩, peek_writeBytes, dif_pos ⟨Nat.le_refl _, by simp⟩]
        simp
      · rw [if_neg fun hin => hat ⟨hin.1, hin.2.1⟩]
        refine hframe.peek_eq fun ⟨hsp, hle, hlt⟩ => hat ⟨hsp, ?_⟩
        rw [List.length_singleton] at hlt
        omega
    · rw [if_neg h]
      exact ⟨fun _ _ => by rw [if_neg fun hin => h hin.2.2], fun _ => rfl, rfl, rfl, rfl, rfl⟩
  · unfold State.hostMemRead
    rw [capacityOf_eq]
    by_cases ha : a < s.cfg.capacity sp
    · rw [if_pos ha, if_neg (by omega)]
    · rw [if_neg ha, if_pos (by omega)]

/-! Reset. -/

/-- After a reset every number reads 0: an assigned one its register, and every register is 0. -/
theorem hostRegRead_eq_zero {s : State} (h : ∀ r, s.getReg r = 0) (k : Nat) : s.hostRegRead k = 0 := by
  cases hk : Reg.ofNumber k with
  | none => exact hostRegRead_of_ofNumber_none hk
  | some r => rw [hostRegRead_of_ofNumber hk, h r]

theorem getReg_reset (r : Reg) : State.reset.getReg r = 0 := by
  cases r <;> simp [State.getReg, State.reset]

theorem getReg_hostReset (s : State) (r : Reg) : s.hostReset.getReg r = 0 := by
  rw [← getReg_reset r]
  cases r <;> rfl

theorem reset_mem (sp : Space) : State.reset.mem sp = [] := by cases sp <;> rfl

theorem hostReset_mem (s : State) (sp : Space) : s.hostReset.mem sp = [] := by cases sp <;> rfl

theorem hostReset_faulted (s : State) : s.hostReset.faulted = false := by
  show (0 : Word32).getLsbD 0 = false
  decide

/-- A byte of an empty memory is the free value. -/
theorem peek_of_mem_nil {s : State} {sp : Space} (h : s.mem sp = []) (a : Nat) :
    (s.mem sp).get? a = none ∧ s.peek sp a = Config.unspecifiedByte s.epoch sp a := by
  unfold State.peek
  rw [h]
  exact ⟨rfl, rfl⟩

/-- Settles O10: every register is 0 and every memory empty, at reset and after Reset. -/
theorem resetClearsRegistersAndForgetsMemory : Obligations.ResetClearsRegistersAndForgetsMemory :=
  ⟨⟨hostRegRead_eq_zero getReg_reset, rfl, fun sp => peek_of_mem_nil (reset_mem sp)⟩, fun s =>
    ⟨_, rfl, hostRegRead_eq_zero (getReg_hostReset s), hostReset_faulted s, fun sp => peek_of_mem_nil (hostReset_mem s sp),
      rfl, rfl, rfl⟩⟩

/-- Settles O16: the default configuration is legal, STATUS is 0, and nothing is stored. -/
theorem invariantHoldsAtReset : Obligations.InvariantHoldsAtReset where
  cfg := by decide
  status := .inl rfl
  memory sp := by
    rw [Safety.memoryLegal, reset_mem]
    exact ⟨MemoryLaws.nil_wf, fun _ hx => absurd hx List.not_mem_nil⟩
  dlen := Nat.zero_le _
  xlen := Nat.zero_le _
  digest _ hk := absurd hk (Nat.not_lt_zero _)
  text _ hk := absurd hk (Nat.not_lt_zero _)

/-! STATUS. -/

/-- The host cannot write STATUS. -/
theorem setReg_status (s : State) {r : Reg} (hr : r.access = .rw) (v : Word64) : (s.setReg r v).status = s.status := by
  cases r with
  | status => exact absurd hr (by decide)
  | _ => rfl

/-- With a fault recorded a write to CMD changes nothing (R304). -/
theorem issueCommand_of_faulted {s : State} (hf : s.faulted = true) (w : Word32) : issueCommand w s = .next s := by
  unfold issueCommand
  rw [if_pos hf]

theorem faulted_congr {s t : State} (h : t.status = s.status) : t.faulted = s.faulted :=
  congrArg (BitVec.getLsbD · 0) h

/-- A primitive that is neither Reset nor a write to CMD leaves STATUS alone. -/
theorem hostStep_status {op : HostOp} {s t : State} (h : hostStep op s = .next t) (hreset : op ≠ .reset)
    (hcmd : ∀ v, op ≠ .regWrite 0x00 v) : t.status = s.status := by
  cases op with
  | regRead k | memRead sp a => rw [next_inj h]
  | regWrite k v =>
    rcases hostRegWrite_cases (fun hk => hcmd v (by rw [hk])) h with rfl | ⟨r, _, hr, rfl⟩
    · rfl
    · exact setReg_status s hr v
  | memWrite sp a b =>
    rw [next_inj h]
    rcases hostMemWrite_cases sp a b s with hw | ⟨_, _, hw⟩ <;> rw [hw]
    exact writeBytes_status s sp a [b]
  | reset => exact absurd rfl hreset

/-- Settles O15: only a write to CMD and Reset touch STATUS, and with a fault recorded a write to CMD does not. -/
theorem faultIsSticky : Obligations.FaultIsSticky := by
  intro op s t h
  have hissued (hf : s.faulted = true) (hcmd : ∃ v, op = .regWrite 0x00 v) : t = s := by
    obtain ⟨v, rfl⟩ := hcmd
    exact next_inj ((issueCommand_of_faulted hf _).symm.trans h)
  have hafter (hop : op = .reset) : t.faulted = false := by
    subst hop
    exact next_inj h ▸ hostReset_faulted s
  refine ⟨hissued, fun hf hop => ?_, fun hft hfs => ?_, hafter⟩
  · by_cases hcmd : ∃ v, op = .regWrite 0x00 v
    · rw [hissued hf hcmd]
    · exact hostStep_status h hop (not_exists.1 hcmd)
  · by_contra hcmd
    have hop : op ≠ .reset := fun hop => Bool.false_ne_true ((hafter hop).symm.trans hft)
    rw [faulted_congr (hostStep_status h hop (not_exists.1 hcmd)), hfs] at hft
    exact Bool.false_ne_true hft

end Sys2Proof.Machine
end

section
/-! PROOFS. What a command does depends on what its rule reads and on nothing else (O20): two states that agree on the
reads of a command take the same tests, and each effect writes the same values in both; the frame of the effect says
that it writes nothing else. -/

namespace Sys2Proof.Machine

open Sys2Proof.Claims

/-- Where `s` and `s'` read the same, or `t` differs from `s`, `t` and `t'` read the same. -/
def Follows (s s' t t' : State) : Prop :=
  (∀ r, s.getReg r = s'.getReg r ∨ t.getReg r ≠ s.getReg r → t.getReg r = t'.getReg r) ∧
    ∀ sp a, s.peek sp a = s'.peek sp a ∨ t.peek sp a ≠ s.peek sp a → t.peek sp a = t'.peek sp a

/-- Two outcomes from `s` and `s'`: if the first is a next state, so is the second, and the two states follow. -/
def Matched (s s' : State) (o o' : Result) : Prop :=
  ∀ t, o = .next t → ∃ t', o' = .next t' ∧ Follows s s' t t'

/-- Two effects with one frame follow when they leave the same values inside it. -/
theorem follows_of_frame {s s' t t' : State} {regs : Reg → Prop} {bytes : Space → Nat → Prop}
    (h : Frame s t regs bytes) (h' : Frame s' t' regs bytes) (hr : ∀ r, regs r → t.getReg r = t'.getReg r)
    (hb : ∀ sp a, bytes sp a → t.peek sp a = t'.peek sp a) : Follows s s' t t' := by
  refine ⟨fun r hor => ?_, fun sp a hor => ?_⟩
  · by_cases hin : regs r
    · exact hr r hin
    · rw [h.getReg_eq hin, h'.getReg_eq hin]
      exact hor.resolve_right (not_not_intro (h.getReg_eq hin))
  · by_cases hin : bytes sp a
    · exact hb sp a hin
    · rw [h.peek_eq hin, h'.peek_eq hin]
      exact hor.resolve_right (not_not_intro (h.peek_eq hin))

theorem matched_next {s s' t t' : State} (h : Follows s s' t t') : Matched s s' (.next t) (.next t') :=
  fun _ ht => ⟨t', rfl, next_inj ht ▸ h⟩

theorem matched_fault (s s' : State) (f : Fault) (o : Result) : Matched s s' (.fault f) o :=
  fun _ ht => nomatch ht

theorem matched_ite {s s' : State} {p : Prop} [Decidable p] {a b a' b' : Result} (ha : Matched s s' a a')
    (hb : Matched s s' b b') : Matched s s' (if p then a else b) (if p then a' else b') := by
  split
  · exact ha
  · exact hb

/-- The STATUS a fault leaves depends on STATUS alone (R301). -/
theorem raised_status (s : State) (c : FaultCode) :
    (s.raised c).status = if s.status.getLsbD 0 then s.status else statusWithFault s.status c.code :=
  apply_ite State.status _ _ _

theorem matched_raise {s s' : State} (h : s.status = s'.status) (c : FaultCode) :
    Matched s s' (raise c s) (raise c s') := by
  refine matched_next (follows_of_frame (frame_raised s c) (frame_raised s' c) ?_ fun _ _ => False.elim)
  rintro r rfl
  simp only [State.getReg, raised_status, h]

/-! The command skeletons: the same tests, then effects that follow. -/

theorem matched_padCommand {v : Variant} {pad : State → State} {s s' : State} (hcfg : s.cfg = s'.cfg)
    (hstatus : s.status = s'.status) (hmlen : s.mlen = s'.mlen) (h : Follows s s' (pad s) (pad s')) :
    Matched s s' (padCommand v pad s) (padCommand v pad s') := by
  unfold padCommand
  rw [← hcfg, ← hmlen]
  exact matched_ite (matched_raise hstatus _) (matched_ite (matched_raise hstatus _) (matched_next h))

theorem matched_blockCommand {v : Variant} {block : State → State} {s s' : State} (hcfg : s.cfg = s'.cfg)
    (hstatus : s.status = s'.status) (hplen : s.plen = s'.plen) (hbidx : s.bidx = s'.bidx)
    (h : Follows s s' (block s) (block s')) : Matched s s' (blockCommand v block s) (blockCommand v block s') := by
  unfold blockCommand State.blockMissing
  rw [← hcfg, ← hplen, ← hbidx]
  exact matched_ite (matched_raise hstatus _) (matched_next h)

theorem matched_squeezeCommand {L : Nat} {squeeze : State → State} {s s' : State} (hcfg : s.cfg = s'.cfg)
    (hstatus : s.status = s'.status) (h : Follows s s' (squeeze s) (squeeze s')) :
    Matched s s' (squeezeCommand L squeeze s) (squeezeCommand L squeeze s') := by
  unfold squeezeCommand
  rw [← hcfg]
  exact matched_ite (matched_raise hstatus _) (matched_next h)

theorem matched_hashCommand {v : Variant} {s s' : State} (hcfg : s.cfg = s'.cfg)
    (hstatus : s.status = s'.status) (hmlen : s.mlen = s'.mlen) (hL : s.outLen v = s'.outLen v)
    (h : Follows s s' (s.hashOf v) (s'.hashOf v)) : Matched s s' (hashCommand v s) (hashCommand v s') := by
  unfold hashCommand
  rw [← hcfg, ← hmlen, ← hL]
  exact matched_ite (matched_raise hstatus _) (matched_ite (matched_raise hstatus _)
    (matched_ite (matched_raise hstatus _) (matched_next h)))

/-! Reading a register says what its field holds. -/

theorem eq_of_setWidth_eq {w : Nat} (hw : w ≤ 64) {x y : BitVec w} (h : x.setWidth 64 = y.setWidth 64) : x = y := by
  have hcut := congrArg (BitVec.setWidth w) h
  rwa [BitVec.setWidth_setWidth_of_le _ hw, BitVec.setWidth_setWidth_of_le _ hw, BitVec.setWidth_eq,
    BitVec.setWidth_eq] at hcut

theorem status_eq_of_getReg {s s' : State} (h : s.getReg .status = s'.getReg .status) : s.status = s'.status :=
  eq_of_setWidth_eq (by decide) h

/-- Two states agree on the state file of a variant when each register of it reads the same. -/
theorem sameFile_iff_getReg {v : Variant} {s s' : State} :
    SameFile v s s' ↔ ∀ r, stateFile v r → s.getReg r = s'.getReg r := by
  refine ⟨fun h r hr => ?_, fun h => ?_⟩
  · cases v <;> obtain ⟨j, rfl⟩ := hr <;> simp only [SameFile] at h <;> simp only [State.getReg, h]
  · cases v with
    | md5 | sha1 | sha224 | sha256 =>
      exact Vector.ext fun j hj => eq_of_setWidth_eq (by decide) (h _ ⟨⟨j, hj⟩, rfl⟩)
    | sha384 | sha512 | sha3_224 | sha3_256 | sha3_384 | sha3_512 | shake128 | shake256 =>
      exact Vector.ext fun j hj => h _ ⟨⟨j, hj⟩, rfl⟩

theorem take_toList_congr {α : Type} {m n : Nat} {x y : Vector α m} (h : ∀ j : Fin m, j.val < n → x[j] = y[j]) :
    x.toList.take n = y.toList.take n := by
  refine List.ext_getElem (by simp) fun j hx hy => ?_
  rw [List.length_take, Vector.length_toList] at hx
  rw [List.getElem_take, List.getElem_take, Vector.getElem_toList, Vector.getElem_toList]
  exact h ⟨j, by omega⟩ (by show j < n; omega)

/-! The effects: each writes the same values from two states that agree on what it reads. -/

/-- A register takes the same value whatever state it stands in. -/
theorem getReg_setReg_congr (s s' : State) (r : Reg) (v : Word64) :
    (s.setReg r v).getReg r = (s'.setReg r v).getReg r := by
  by_cases hr : r = .cmd
  · subst hr
    rfl
  · rw [getReg_setReg_same s hr, getReg_setReg_same s' hr]

theorem follows_setReg (s s' : State) (r : Reg) (v : Word64) : Follows s s' (s.setReg r v) (s'.setReg r v) := by
  refine follows_of_frame (frame_setReg s r v) (frame_setReg s' r v) ?_ fun _ _ => False.elim
  rintro _ rfl
  exact getReg_setReg_congr s s' _ v

/-- A run of bytes and its length are stored alike in both states. -/
theorem follows_storeRun (s s' : State) (sp : Space) (r : Reg) (bs : List Byte) (x : Word64) :
    Follows s s' ((s.writeBytes sp 0 bs).setReg r x) ((s'.writeBytes sp 0 bs).setReg r x) := by
  have hstored (u : State) {a : Nat} (ha : a < bs.length) :
      bs[a]? = some (((u.writeBytes sp 0 bs).setReg r x).peek sp a) := by
    rw [(frame_setReg _ r x).peek_eq id]
    exact getElem?_eq_peek_writeBytes u sp ha
  refine follows_of_frame (frame_storeRun s sp r rfl x) (frame_storeRun s' sp r rfl x) ?_ ?_
  · rintro _ rfl
    exact getReg_setReg_congr _ _ _ x
  · rintro _ a ⟨rfl, ha⟩
    exact Option.some.inj ((hstored s ha).symm.trans (hstored s' ha))

/-- STW stores the same bytes in OPB. -/
theorem follows_replaceFirst (s s' : State) (bs : List Byte) :
    Follows s s' { s with opb := replaceFirst s.opb bs } { s' with opb := replaceFirst s'.opb bs } := by
  refine follows_of_frame (frame_replaceFirst s bs) (frame_replaceFirst s' bs) ?_ fun _ _ => False.elim
  rintro _ ⟨j, hj, rfl⟩
  simp [State.getReg, replaceFirst, hj]

theorem follows_ka {s s' : State} {A A' : Lanes} (h : A = A') : Follows s s' { s with ka := A } { s' with ka := A' } := by
  refine follows_of_frame (frame_ka s A) (frame_ka s' A') ?_ fun _ _ => False.elim
  rintro _ ⟨j, rfl⟩
  exact congrArg (·[j]) h

theorem follows_initOf (v : Variant) (s s' : State) : Follows s s' (s.initOf v) (s'.initOf v) := by
  refine follows_of_frame (frame_initOf v s) (frame_initOf v s') ?_ fun _ _ => False.elim
  rintro r (rfl | hr)
  · exact (initOf_bidx v s).trans (initOf_bidx v s').symm
  · exact sameFile_iff_getReg.1 (sameFile_initOf v s s') r hr

theorem follows_padOf {v : Variant} {s s' : State} (hn : s.mlen = s'.mlen) (hm : s.message = s'.message) :
    Follows s s' (s.padOf v) (s'.padOf v) := by
  rw [padOf_eq, padOf_eq, hn, hm]
  exact follows_storeRun s s' .pbuf .plen _ _

theorem follows_blockOf {v : Variant} {s s' : State} (hfile : SameFile v s s') (hbidx : s.bidx = s'.bidx)
    (hb : s.block v.blockSize = s'.block v.blockSize) : Follows s s' (s.blockOf v) (s'.blockOf v) := by
  refine follows_of_frame (frame_blockOf v s) (frame_blockOf v s') ?_ fun _ _ => False.elim
  rintro r (rfl | hr)
  · show (s.blockOf v).bidx = (s'.blockOf v).bidx
    rw [blockOf_bidx, blockOf_bidx, hbidx]
  · exact sameFile_iff_getReg.1 (sameFile_blockOf hfile hb) r hr

/-- What a SQUEEZE leaves in KA (R223). -/
theorem outOf_ka {v : Variant} (hv : v ∈ spongeVariants) (s : State) :
    (s.outOf v).ka = (spongeSqueeze v.blockSize s.ka (s.outLen v)).2 := by
  cases v with
  | md5 | sha1 | sha224 | sha256 | sha384 | sha512 => exact absurd hv (by decide)
  | _ => rfl

theorem outOf_peek_congr {v : Variant} {s s' : State} (hL : s.outLen v = s'.outLen v)
    (hd : digestBytes v s = digestBytes v s') {a : Nat} (ha : a < s.outLen v) :
    (s.outOf v).peek .dout a = (s'.outOf v).peek .dout a := by
  apply Option.some.inj
  rw [← peek_outOf v s ha, ← peek_outOf v s' (hL ▸ ha), hd]

theorem follows_outOf {v : Variant} {s s' : State} (hL : s.outLen v = s'.outLen v)
    (hd : digestBytes v s = digestBytes v s') (hka : v ∈ spongeVariants → s.ka = s'.ka) :
    Follows s s' (s.outOf v) (s'.outOf v) := by
  refine follows_of_frame (frame_outOf v s) (hL ▸ frame_outOf v s') ?_ ?_
  · rintro r (rfl | ⟨hv, j, rfl⟩)
    · show (s.outOf v).dlen = (s'.outOf v).dlen
      rw [outOf_dlen, outOf_dlen, hL]
    · simp only [State.getReg, outOf_ka hv, hka hv, hL]
  · rintro _ a ⟨rfl, ha⟩
    exact outOf_peek_congr hL hd ha

theorem follows_hexOut {s s' : State} (hd : s.dlen = s'.dlen)
    (hb : s.readBytes .dout 0 s.dlen.toNat = s'.readBytes .dout 0 s'.dlen.toNat) : Follows s s' s.hexOut s'.hexOut := by
  unfold State.hexOut
  rw [hb, hd]
  exact follows_storeRun s s' .xout .xlen _ _

/-! HASH.v: its blocks keep the two runs aligned whatever MLEN is, for there are fewer than 2^64 of them. -/

theorem iterate_blockOf_bidx (v : Variant) (n : Nat) (s : State) :
    ((State.blockOf v)^[n] s).bidx = s.bidx + BitVec.ofNat 64 n := by
  induction n with
  | zero => simp
  | succ n ih => rw [Function.iterate_succ_apply', blockOf_bidx, ih, BitVec.add_assoc, BitVec.ofNat_add]; rfl

theorem blocksOf_lt (v : Variant) (s : State) : s.blocksOf v < 2 ^ 64 := by
  have hP : v.blockSize * s.blocksOf v ≤ s.mlen.toNat + v.lenField + v.blockSize := by
    rw [blockSize_mul_blocksOf]
    exact v.paddedLen_le _
  have hsize : 64 ≤ v.blockSize ∧ v.blockSize ≤ 168 ∧ v.lenField ≤ 16 := by cases v <;> decide
  have hmul : 64 * s.blocksOf v ≤ v.blockSize * s.blocksOf v := Nat.mul_le_mul_right _ hsize.1
  omega

/-- Any number of block commands that find their blocks inside the padded message keep two runs aligned. -/
theorem Aligned.iterate_blockOf_from_zero {v : Variant} {P n : Nat} {s s' : State} (h : Aligned v P s s')
    (h0 : s.bidx = 0) (hP : v.blockSize * n ≤ P) (hn : n < 2 ^ 64) :
    Aligned v P ((State.blockOf v)^[n] s) ((State.blockOf v)^[n] s') := by
  induction n with
  | zero => exact h
  | succ n ih =>
    have hbidx : ((State.blockOf v)^[n] s).bidx.toNat = n := by
      simpa [iterate_blockOf_bidx, h0] using Nat.lt_of_succ_lt hn
    rw [Function.iterate_succ_apply', Function.iterate_succ_apply']
    refine (ih ((Nat.mul_le_mul_left _ (by omega)).trans hP) (by omega)).blockOf ?_
    rwa [hbidx]

theorem aligned_hashBlocks {v : Variant} {s s' : State} (hn : s.mlen = s'.mlen)
    (hm : ∀ a, a < s.mlen.toNat → s.peek .msg a = s'.peek .msg a) :
    Aligned v (v.paddedLen s.mlen.toNat) (hashBlocks v s) (hashBlocks v s') := by
  have hblocks : s'.blocksOf v = s.blocksOf v := by rw [State.blocksOf, State.blocksOf, hn]
  unfold hashBlocks
  rw [hblocks]
  exact (aligned_start v hn hm).iterate_blockOf_from_zero (by rw [padOf_bidx, initOf_bidx])
    (blockSize_mul_blocksOf v s).le (blocksOf_lt v s)

/-- DIGEST.v and SQUEEZE.v make the new state file from the old one and the output length. -/
theorem sameFile_outOf {v : Variant} {s s' : State} (h : SameFile v s s') (hL : s.outLen v = s'.outLen v) :
    SameFile v (s.outOf v) (s'.outOf v) := by
  cases v with
  | md5 | sha1 | sha224 | sha256 | sha384 | sha512 => exact h
  | sha3_224 | sha3_256 | sha3_384 | sha3_512 | shake128 | shake256 =>
    exact congrArg₂ (fun A L => (spongeSqueeze _ A L).2) h hL

theorem hashOf_plen (v : Variant) (s : State) : (s.hashOf v).plen = BitVec.ofNat 64 (v.paddedLen s.mlen.toNat) := by
  have hout : ∀ u : State, (u.outOf v).plen = u.plen := fun u => by cases v <;> rfl
  rw [hashOf_eq, hout, hashBlocks, iterate_blockOf State.plen (fun u => by cases v <;> rfl), padOf_eq, initOf_mlen]
  rfl

theorem outOf_bidx (v : Variant) (s : State) : (s.outOf v).bidx = s.bidx := by cases v <;> rfl

/-- The output command leaves PBUF alone. -/
theorem outOf_peek_pbuf (v : Variant) (s : State) (a : Nat) : (s.outOf v).peek .pbuf a = s.peek .pbuf a :=
  (frame_outOf v s).peek_eq fun ⟨hsp, _⟩ => absurd hsp (by decide)

theorem follows_hashOf {v : Variant} {s s' : State} (hn : s.mlen = s'.mlen)
    (hm : ∀ a, a < s.mlen.toNat → s.peek .msg a = s'.peek .msg a) (hL : s.outLen v = s'.outLen v) :
    Follows s s' (s.hashOf v) (s'.hashOf v) := by
  obtain ⟨hfile, hbidx, hpbuf⟩ := aligned_hashBlocks (v := v) hn hm
  have hL' : (hashBlocks v s).outLen v = (hashBlocks v s').outLen v := by simpa using hL
  have hbytes : hashBytes v s = hashBytes v s' := by
    unfold hashBytes
    rw [hn, hL]
  refine follows_of_frame (frame_hashOf v s) (hbytes ▸ frame_hashOf v s') ?_ ?_
  · rintro r (rfl | rfl | rfl | hr)
    · show (s.hashOf v).plen = (s'.hashOf v).plen
      rw [hashOf_plen, hashOf_plen, hn]
    · show (s.hashOf v).dlen = (s'.hashOf v).dlen
      rw [hashOf_dlen, hashOf_dlen, hL]
    · show (s.hashOf v).bidx = (s'.hashOf v).bidx
      rw [hashOf_eq, hashOf_eq, outOf_bidx, outOf_bidx, hbidx]
    · exact sameFile_iff_getReg.1 (sameFile_outOf hfile hL') r hr
  · rintro sp a (⟨rfl, ha⟩ | ⟨rfl, ha⟩)
    · rw [hashOf_eq, hashOf_eq, outOf_peek_pbuf, outOf_peek_pbuf, hpbuf a ha]
    · exact outOf_peek_congr hL' (digestBytes_congr hfile hL') (by simpa using ha)

/-! What each command reads. -/

/-- Two states agree on what a command reads. -/
structure SameReads (i : Instr) (s s' : State) : Prop where
  reg : ∀ r, mayRead i r → s.getReg r = s'.getReg r
  cfg : s.cfg = s'.cfg
  byte : ∀ sp a, mayLoad i s sp a → s.peek sp a = s'.peek sp a

/-- A rotate makes RES from OPA and OPN. -/
theorem exec_rotate {i : Instr} (hi : i ∈ rotlRow ++ rotrRow) :
    ∃ f : Word64 → Word64 → Word64, ∀ s, exec i s = .next (s.setReg .res (f s.opa s.opn)) := by
  simp only [rotlRow, rotrRow, List.cons_append, List.nil_append, List.mem_cons, List.not_mem_nil, or_false] at hi
  rcases hi with rfl | rfl | rfl | rfl | rfl | rfl | rfl | rfl
  · exact ⟨fun x n => (rotl (x.setWidth 8) n.toNat).setWidth 64, fun _ => rfl⟩
  · exact ⟨fun x n => (rotl (x.setWidth 16) n.toNat).setWidth 64, fun _ => rfl⟩
  · exact ⟨fun x n => (rotl (x.setWidth 32) n.toNat).setWidth 64, fun _ => rfl⟩
  · exact ⟨fun x n => (rotl (x.setWidth 64) n.toNat).setWidth 64, fun _ => rfl⟩
  · exact ⟨fun x n => (rotr (x.setWidth 8) n.toNat).setWidth 64, fun _ => rfl⟩
  · exact ⟨fun x n => (rotr (x.setWidth 16) n.toNat).setWidth 64, fun _ => rfl⟩
  · exact ⟨fun x n => (rotr (x.setWidth 32) n.toNat).setWidth 64, fun _ => rfl⟩
  · exact ⟨fun x n => (rotr (x.setWidth 64) n.toNat).setWidth 64, fun _ => rfl⟩

/-- An LDW makes RES from the first bytes of OPB, which it may read. -/
theorem exec_load {i : Instr} (hi : i ∈ ldwRow) :
    ∃ (n : Nat) (f : List Byte → Word64), (∀ j : Fin 8, j.val < n → mayRead i (.opb j)) ∧
      ∀ s, exec i s = .next (s.setReg .res (f (s.opb.toList.take n))) := by
  simp only [ldwRow, List.mem_cons, List.not_mem_nil, or_false] at hi
  rcases hi with rfl | rfl | rfl | rfl
  · exact ⟨4, fun l => (beWord 32 l).setWidth 64, fun j hj => .inr ⟨by decide, hj⟩, fun _ => rfl⟩
  · exact ⟨8, fun l => (beWord 64 l).setWidth 64, fun j _ => .inl (by decide), fun _ => rfl⟩
  · exact ⟨4, fun l => (leWord 32 l).setWidth 64, fun j hj => .inr ⟨by decide, hj⟩, fun _ => rfl⟩
  · exact ⟨8, fun l => (leWord 64 l).setWidth 64, fun j _ => .inl (by decide), fun _ => rfl⟩

/-- An STW replaces the first bytes of OPB by bytes made from OPA. -/
theorem exec_store {i : Instr} (hi : i ∈ stwRow) :
    ∃ f : Word64 → List Byte, ∀ s, exec i s = .next { s with opb := replaceFirst s.opb (f s.opa) } := by
  simp only [stwRow, List.mem_cons, List.not_mem_nil, or_false] at hi
  rcases hi with rfl | rfl | rfl | rfl
  · exact ⟨fun x => toBe (x.setWidth 32), fun _ => rfl⟩
  · exact ⟨fun x => toBe (x.setWidth 64), fun _ => rfl⟩
  · exact ⟨fun x => toLe (x.setWidth 32), fun _ => rfl⟩
  · exact ⟨fun x => toLe (x.setWidth 64), fun _ => rfl⟩

/-- DIGEST.v has no test; SQUEEZE.v has R251's. -/
theorem exec_out (v : Variant) (s : State) : exec v.out s =
    if v ∈ spongeVariants then squeezeCommand (s.outLen v) (State.outOf v) s else .next (s.outOf v) := by
  cases v <;> rfl

/-- Every command stands in one row of the opcode table (R72). -/
theorem mem_opcode_rows (i : Instr) :
    i ∈ rotlRow ++ rotrRow ∨ i ∈ ldwRow ∨ i ∈ stwRow ∨ i ∈ allVariants.map Variant.init ∨
      i ∈ allVariants.map Variant.pad ∨ i ∈ allVariants.map Variant.blockCmd ∨ i ∈ allVariants.map Variant.out ∨
      i ∈ allVariants.map Variant.hash ∨ i = .hex ∨ i = .keccakf := by
  cases i <;> decide

theorem SameReads.rotate {i : Instr} {s s' : State} (h : SameReads i s s') (hi : i ∈ rotlRow ++ rotrRow) :
    Matched s s' (exec i s) (exec i s') := by
  obtain ⟨f, hf⟩ := exec_rotate hi
  have hopa : s.opa = s'.opa := h.reg .opa (List.mem_append_left _ hi)
  have hopn : s.opn = s'.opn := h.reg .opn hi
  rw [hf, hf, hopa, hopn]
  exact matched_next (follows_setReg s s' .res _)

theorem SameReads.load {i : Instr} {s s' : State} (h : SameReads i s s') (hi : i ∈ ldwRow) :
    Matched s s' (exec i s) (exec i s') := by
  obtain ⟨n, f, hread, hf⟩ := exec_load hi
  have hopb : s.opb.toList.take n = s'.opb.toList.take n :=
    take_toList_congr fun j hj => eq_of_setWidth_eq (by decide) (h.reg (.opb j) (hread j hj))
  rw [hf, hf, hopb]
  exact matched_next (follows_setReg s s' .res _)

theorem SameReads.store {i : Instr} {s s' : State} (h : SameReads i s s') (hi : i ∈ stwRow) :
    Matched s s' (exec i s) (exec i s') := by
  obtain ⟨f, hf⟩ := exec_store hi
  have hbytes : f s.opa = f s'.opa := congrArg f (h.reg .opa (List.mem_append_right _ hi))
  rw [hf, hf, hbytes]
  exact matched_next (follows_replaceFirst s s' _)

/-- PAD.v and HASH.v read STATUS, MLEN and the message. -/
theorem SameReads.message {i : Instr} {s s' : State} (h : SameReads i s s')
    (hi : i ∈ allVariants.map Variant.pad ++ allVariants.map Variant.hash) :
    s.status = s'.status ∧ s.mlen = s'.mlen ∧ ∀ a, a < s.mlen.toNat → s.peek .msg a = s'.peek .msg a := by
  refine ⟨status_eq_of_getReg (h.reg .status (.inl ?_)), h.reg .mlen hi, fun a ha => h.byte .msg a (.inl ⟨hi, rfl, ha⟩)⟩
  rcases List.mem_append.1 hi with hpad | hhash
  · exact List.mem_append_left _ (List.mem_append_left _ hpad)
  · exact List.mem_append_right _ hhash

theorem SameReads.pad {v : Variant} {s s' : State} (h : SameReads v.pad s s') :
    Matched s s' (exec v.pad s) (exec v.pad s') := by
  obtain ⟨hstatus, hn, hm⟩ := h.message (List.mem_append_left _ (mem_map_allVariants _ v))
  have hmsg : s.message = s'.message := by
    unfold State.message
    rw [← hn]
    exact readBytes_congr fun a ha => by simpa using hm a ha
  rw [exec_pad, exec_pad]
  exact matched_padCommand h.cfg hstatus hn (follows_padOf hn hmsg)

theorem SameReads.hash {v : Variant} {s s' : State} (h : SameReads v.hash s s') :
    Matched s s' (exec v.hash s) (exec v.hash s') := by
  obtain ⟨hstatus, hn, hm⟩ := h.message (List.mem_append_right _ (mem_map_allVariants _ v))
  have hL : s.outLen v = s'.outLen v :=
    outLen_congr fun hv => h.reg .olen (by rcases hv with rfl | rfl <;> simp [mayRead, Variant.hash])
  rw [exec_hash, exec_hash]
  exact matched_hashCommand h.cfg hstatus hn hL (follows_hashOf hn hm hL)

theorem mayRead_blockCmd_stateFile {v : Variant} {r : Reg} (hr : stateFile v r) : mayRead v.blockCmd r := by
  cases v <;> obtain ⟨j, rfl⟩ := hr <;> simp [mayRead, Variant.blockCmd]

theorem blockBytes_eq (v : Variant) : blockBytes v = v.blockSize := by cases v <;> rfl

theorem SameReads.block {v : Variant} {s s' : State} (h : SameReads v.blockCmd s s') :
    Matched s s' (exec v.blockCmd s) (exec v.blockCmd s') := by
  have hmem : v.blockCmd ∈ allVariants.map Variant.blockCmd := mem_map_allVariants _ v
  have hstatus : s.status = s'.status :=
    status_eq_of_getReg (h.reg .status (.inl (List.mem_append_left _ (List.mem_append_right _ hmem))))
  have hbidx : s.bidx = s'.bidx := h.reg .bidx hmem
  have hfile : SameFile v s s' := sameFile_iff_getReg.2 fun r hr => h.reg r (mayRead_blockCmd_stateFile hr)
  have hblock : s.block v.blockSize = s'.block v.blockSize := by
    unfold State.block
    rw [← hbidx]
    refine readBytes_congr fun k hk => h.byte .pbuf _ (.inr (.inl ⟨v, rfl, rfl, ?_⟩))
    rw [blockBytes_eq, Nat.mul_succ]
    omega
  rw [exec_blockCmd, exec_blockCmd]
  exact matched_blockCommand h.cfg hstatus (h.reg .plen hmem) hbidx (follows_blockOf hfile hbidx hblock)

/-- The digest is made from the registers DIGEST.v or SQUEEZE.v reads: for SHA-224 and SHA-384 not the
whole state file. -/
theorem SameReads.digestBytes_eq {v : Variant} {s s' : State} (h : SameReads v.out s s')
    (hL : s.outLen v = s'.outLen v) : digestBytes v s = digestBytes v s' := by
  cases v with
  | sha224 =>
    exact congrArg (List.flatMap toBe)
      (take_toList_congr fun j hj => eq_of_setWidth_eq (by decide) (h.reg (.s32h j) (.inr ⟨rfl, hj⟩)))
  | sha384 => exact congrArg (List.flatMap toBe) (take_toList_congr fun j hj => h.reg (.s64h j) (.inr ⟨rfl, hj⟩))
  | _ =>
    refine digestBytes_congr (sameFile_iff_getReg.2 fun r hr => h.reg r ?_) hL
    obtain ⟨j, rfl⟩ := hr
    simp [mayRead, Variant.out]

theorem SameReads.out {v : Variant} {s s' : State} (h : SameReads v.out s s') :
    Matched s s' (exec v.out s) (exec v.out s') := by
  have hL : s.outLen v = s'.outLen v :=
    outLen_congr fun hv => h.reg .olen (by rcases hv with rfl | rfl <;> simp [mayRead, Variant.out])
  have hka (hv : v ∈ spongeVariants) : s.ka = s'.ka :=
    Vector.ext fun j hj => h.reg (.ka ⟨j, hj⟩) (.inr ⟨v, hv, .inr rfl⟩)
  have hfollows : Follows s s' (s.outOf v) (s'.outOf v) := follows_outOf hL (h.digestBytes_eq hL) hka
  rw [exec_out, exec_out, ← hL]
  by_cases hv : v ∈ spongeVariants
  · rw [if_pos hv, if_pos hv]
    exact matched_squeezeCommand h.cfg (status_eq_of_getReg (h.reg .status (.inr ⟨v, hv, rfl⟩))) hfollows
  · rw [if_neg hv, if_neg hv]
    exact matched_next hfollows

theorem SameReads.hex {s s' : State} (h : SameReads .hex s s') : Matched s s' (exec .hex s) (exec .hex s') := by
  have hd : s.dlen = s'.dlen := h.reg .dlen rfl
  have hb : s.readBytes .dout 0 s.dlen.toNat = s'.readBytes .dout 0 s'.dlen.toNat := by
    rw [← hd]
    exact readBytes_congr fun a ha => h.byte .dout _ (.inr (.inr ⟨rfl, rfl, by omega⟩))
  show Matched s s' (execHex s) (execHex s')
  unfold execHex
  rw [← hd, ← h.cfg]
  exact matched_ite (matched_fault s s' _ _) (matched_next (follows_hexOut hd hb))

theorem SameReads.keccakf {s s' : State} (h : SameReads .keccakf s s') :
    Matched s s' (exec .keccakf s) (exec .keccakf s') := by
  have hka : s.ka = s'.ka := Vector.ext fun j hj => h.reg (.ka ⟨j, hj⟩) (.inl rfl)
  exact matched_next (follows_ka (congrArg keccakF hka))

/-- Settles O20: by the rows of the opcode table. -/
theorem commandsReadOnlyTheirOperands : Obligations.CommandsReadOnlyTheirOperands := by
  intro i s s' t hreg hcfg hbyte ht
  have h : SameReads i s s' := ⟨hreg, hcfg, hbyte⟩
  suffices hmatched : Matched s s' (exec i s) (exec i s') from hmatched t ht
  rcases mem_opcode_rows i with hi | hi | hi | hi | hi | hi | hi | hi | rfl | rfl
  · exact h.rotate hi
  · exact h.load hi
  · exact h.store hi
  · obtain ⟨v, -, rfl⟩ := List.mem_map.1 hi
    rw [exec_init, exec_init]
    exact matched_next (follows_initOf v s s')
  · obtain ⟨v, -, rfl⟩ := List.mem_map.1 hi
    exact h.pad
  · obtain ⟨v, -, rfl⟩ := List.mem_map.1 hi
    exact h.block
  · obtain ⟨v, -, rfl⟩ := List.mem_map.1 hi
    exact h.out
  · obtain ⟨v, -, rfl⟩ := List.mem_map.1 hi
    exact h.hash
  · exact h.hex
  · exact h.keccakf

end Sys2Proof.Machine
end

section
/-! PROOFS. What a host read does (O9, R57, R310): it only records what it returns (log 5). -/

namespace Sys2Proof.Machine

/-- A register read replaces the record of reads, and no other field. -/
theorem hostStep_regRead (s : State) (k : Nat) :
    hostStep (.regRead k) s = .next { s with reads := .reg k (s.hostRegRead k) :: s.reads } := rfl

/-- A byte read replaces the record of reads, and no other field. -/
theorem hostStep_memRead (s : State) (sp : Space) (a : Nat) :
    hostStep (.memRead sp a) s = .next { s with reads := .mem sp a (s.hostMemRead sp a) :: s.reads } := rfl

/-- Settles O9: by what each of the two reads does to the state. -/
theorem hostReadsChangeNothing : Obligations.HostReadsChangeNothing :=
  fun s => ⟨hostStep_regRead s, hostStep_memRead s⟩

end Sys2Proof.Machine
end

section
/-! PROOFS. The decoder and the encoder agree (O2), and the legal words are the words of the commands (O1, O3): a word
is its three fields, and the command in a row of the opcode map has the row's OP and its place in the row as its code. -/

namespace Sys2Proof

open Sys2Proof.Machine Sys2Proof.Claims

/-- The values of OP that are assigned (R72). -/
def assignedOps : List Byte := [0x01, 0x02, 0x03, 0x04, 0x10, 0x11, 0x12, 0x13, 0x14, 0x15, 0x16]

/-- The row of an unassigned OP is empty. -/
theorem opRow_of_unassigned {op : Byte} (h : op ∉ assignedOps) : opRow op = [] := by
  simp only [assignedOps, List.mem_cons, List.not_mem_nil, or_false, not_or] at h
  simp only [opRow, h, if_false]

/-- An OP has one command for each value of SEL it takes (R73 to R75). -/
theorem opRow_length (op : Byte) : (opRow op).length = selCount op := by
  by_cases h : op ∈ assignedOps
  · have hrows : ∀ op ∈ assignedOps, (opRow op).length = selCount op := by decide
    exact hrows op h
  · rw [opRow_of_unassigned h]
    simp only [assignedOps, List.mem_cons, List.not_mem_nil, or_false, not_or] at h
    simp only [selCount, h, or_false, if_false, List.length_nil]

/-- The command at place `sel` of the row of `op` has the code (`op`, `sel`) (R76). -/
theorem code_of_getElem?_opRow {op : Byte} {sel : Nat} {i : Instr} (h : (opRow op)[sel]? = some i) :
    i.code = (op.toNat, sel) := by
  have hrows : ∀ op ∈ assignedOps, ∀ k : Fin (opRow op).length, (opRow op)[k].code = (op.toNat, k.val) := by
    decide
  obtain ⟨hsel, rfl⟩ := List.getElem?_eq_some_iff.1 h
  by_cases hop : op ∈ assignedOps
  · exact hrows op hop ⟨sel, hsel⟩
  · simp [opRow_of_unassigned hop] at hsel

/-- A word is the three fields of R70. -/
theorem toNat_eq_fields (w : Word32) :
    w.toNat = (opField w).toNat + 256 * (selField w).toNat + 4096 * (zeroField w).toNat := by
  have hw : w.toNat < 2 ^ 32 := w.isLt
  simp only [opField, selField, zeroField, BitVec.extractLsb'_toNat, Nat.shiftRight_eq_div_pow]
  omega

/-- A word decodes to the command that stands at SEL in the row of OP, if bits 31:12 are zero (R70, R77). -/
theorem decode_eq_instr_iff {w : Word32} {i : Instr} :
    decode w = .instr i ↔ zeroField w = 0 ∧ (opRow (opField w))[(selField w).toNat]? = some i := by
  unfold decode
  by_cases hz : zeroField w = 0
  · rw [if_neg (not_not.2 hz)]
    by_cases hrow : opRow (opField w) = []
    · simp [hrow]
    · cases h : (opRow (opField w))[(selField w).toNat]? <;> simp [hz, hrow]
  · simp only [if_pos hz, hz, false_and, reduceCtorEq]

/-- The word of a command decodes to it. -/
theorem decode_encode (i : Instr) : decode (encode i) = .instr i := by
  simpa using command_word i

/-- No other word does: the fields of a word that decodes to a command are the command's code. -/
theorem eq_encode_of_decode {w : Word32} {i : Instr} (h : decode w = .instr i) : w = encode i := by
  obtain ⟨hz, hrow⟩ := decode_eq_instr_iff.1 h
  have hcode : encode i = BitVec.ofNat 32 ((opField w).toNat + 256 * (selField w).toNat) := by
    rw [encode, code_of_getElem?_opRow hrow]
  have hw : w.toNat = (opField w).toNat + 256 * (selField w).toNat := by simpa [hz] using toNat_eq_fields w
  rw [hcode, ← hw, BitVec.ofNat_toNat, BitVec.setWidth_eq]

/-- Settles O2: a command's word decodes to it, and a word that decodes to a command has the fields of its code. -/
theorem decodeAndEncodeAgree : Obligations.DecodeAndEncodeAgree :=
  fun _ i => ⟨eq_encode_of_decode, fun h => h ▸ decode_encode i⟩

/-- The legal words are those the decoder accepts. -/
theorem legalWord_iff_decode {w : Word32} : legalWord w ↔ ∃ i, decode w = .instr i := by
  have hsel : (∃ i, (opRow (opField w))[(selField w).toNat]? = some i) ↔
      (selField w).toNat < selCount (opField w) := by
    simp [List.getElem?_eq_some_iff, opRow_length]
  simp only [decode_eq_instr_iff, exists_and_left, hsel]
  rfl

/-- The decoder reads a command's row of the opcode table as it reads the command's word. -/
theorem decodeTableWord_of_decode {w : Word32} {i : Instr} (h : decode w = .instr i) :
    decodeTableWord 32 w.toNat = some i := by
  rw [decodeTableWord, Nat.mod_eq_of_lt w.isLt, BitVec.ofNat_toNat, BitVec.setWidth_eq, h]

/-- The values of SEL an OP takes, as R77 lists them. -/
theorem lt_selCount_iff (op : Byte) (sel : Nat) :
    sel < selCount op ↔ (op.toNat ∈ [0x01, 0x02, 0x03, 0x04] ∧ sel ≤ 3) ∨
      (op.toNat ∈ [0x10, 0x11, 0x12, 0x13, 0x14] ∧ sel ≤ 11) ∨ (op.toNat ∈ [0x15, 0x16] ∧ sel = 0) := by
  simp only [selCount, ← BitVec.toNat_inj, BitVec.reduceToNat, List.mem_cons, List.not_mem_nil, or_false]
  split_ifs <;> omega

end Sys2Proof

namespace Sys2Proof.Machine

open Sys2Proof.Claims

/-- With no fault recorded a word that is a command's runs the command (R311). -/
theorem issueCommand_of_instr {s : State} (hf : s.faulted = false) {w : Word32} {i : Instr} (h : decode w = .instr i) :
    issueCommand w s = exec i s := by
  simp [issueCommand, hf, h]

/-- With no fault recorded an illegal word raises F_ILLCMD (R77). -/
theorem issueCommand_of_illegal {s : State} (hf : s.faulted = false) {w : Word32} {why : IllegalWord}
    (h : decode w = .illegal why) : issueCommand w s = .next (s.raised .illcmd) := by
  simp [issueCommand, hf, h, raise]

/-- Settles O3: a word is legal when the decoder accepts it, and the decoder accepts the words of the commands. -/
theorem illegalWordsRaiseIllcmd : Obligations.IllegalWordsRaiseIllcmd := by
  intro w
  refine ⟨?_, ?_⟩
  · rw [← lt_selCount_iff]
    exact legalWord_iff_decode.trans (exists_congr fun i => decodeAndEncodeAgree w i)
  · cases h : decode w with
    | instr i => exact .inl ⟨i, eq_encode_of_decode h, rfl⟩
    | illegal why =>
      have hnone (i : Instr) : w ≠ encode i := by
        rintro rfl
        cases h.symm.trans (decode_encode i)
      exact .inr ⟨hnone, ⟨why, rfl⟩, fun s hf => issueCommand_of_illegal hf h⟩

/-- Settles O1: the sample words are the words of their commands, and the others are not legal. -/
theorem wordsDecodeAsTheTableSays : Obligations.WordsDecodeAsTheTableSays := by
  have hsample : ∀ p ∈ sampleWords, p.1 = encode p.2 :=
    List.forall_mem_append.2 ⟨by decide, by decide⟩
  have hillegal : ∀ w ∈ illegalWords, ¬legalWord w := by
    intro w hw
    fin_cases hw <;> decide
  refine ⟨fun p hp => ?_, fun w hw i hi => hillegal w hw (legalWord_iff_decode.2 ⟨i, hi⟩)⟩
  have hdecode : decode p.1 = .instr p.2 := hsample p hp ▸ decode_encode p.2
  exact ⟨hdecode, decodeTableWord_of_decode hdecode⟩

end Sys2Proof.Machine
end

section
/-! PROOFS. A state with other primitives to come: registers, bytes, frames and the effects of HASH.v do not depend on
them. And what a step does when the next primitive is a byte write, a write of MLEN or a command. -/

namespace Sys2Proof.Machine

open Sys2Proof.Claims

theorem getReg_withOps (s : State) (ops : List HostOp) (r : Reg) : (withOps s ops).getReg r = s.getReg r := by
  cases r <;> rfl

theorem peek_withOps (s : State) (ops : List HostOp) (sp : Space) (a : Nat) :
    (withOps s ops).peek sp a = s.peek sp a :=
  peek_congr (by cases sp <;> rfl) rfl a

theorem writeBytes_withOps (s : State) (ops : List HostOp) (sp : Space) (a : Nat) (bs : List Byte) :
    (withOps s ops).writeBytes sp a bs = withOps (s.writeBytes sp a bs) ops := by
  cases sp <;> rfl

theorem initOf_withOps (v : Variant) (s : State) (ops : List HostOp) :
    (withOps s ops).initOf v = withOps (s.initOf v) ops := by
  cases v <;> rfl

theorem padOf_withOps (v : Variant) (s : State) (ops : List HostOp) :
    (withOps s ops).padOf v = withOps (s.padOf v) ops := by
  cases v <;> rfl

theorem blockOf_withOps (v : Variant) (s : State) (ops : List HostOp) :
    (withOps s ops).blockOf v = withOps (s.blockOf v) ops := by
  cases v <;> rfl

theorem outOf_withOps (v : Variant) (s : State) (ops : List HostOp) :
    (withOps s ops).outOf v = withOps (s.outOf v) ops := by
  cases v <;> rfl

theorem hashOf_withOps (v : Variant) (s : State) (ops : List HostOp) :
    (withOps s ops).hashOf v = withOps (s.hashOf v) ops := by
  have hblocks : Function.Semiconj (withOps · ops) (State.blockOf v) (State.blockOf v) :=
    fun u => (blockOf_withOps v u ops).symm
  have hcount : (withOps s ops).blocksOf v = s.blocksOf v := rfl
  rw [State.hashOf, State.hashOf, hcount, initOf_withOps, padOf_withOps, ← hblocks.iterate_right _ _, outOf_withOps]

theorem admits_withOps {v : Variant} {s : State} (h : Admits v s) (ops : List HostOp) : Admits v (withOps s ops) := h

/-- A frame does not look at the primitives to come. -/
theorem frame_withOps {s t : State} {regs : Reg → Prop} {bytes : Space → Nat → Prop} (h : Frame s t regs bytes)
    (ops : List HostOp) : Frame (withOps s ops) (withOps t ops) regs bytes := by
  obtain ⟨hcfg, hepoch, _, hreads⟩ := h.own_eq
  refine ⟨fun r hr => ?_, fun sp a ha => ?_, hcfg, hepoch, rfl, hreads⟩
  · rw [getReg_withOps, getReg_withOps, h.getReg_eq hr]
  · rw [peek_withOps, peek_withOps, h.peek_eq ha]

/-! Single steps. -/

/-- With `op` the next primitive a step performs it. -/
theorem step_withOps_cons (s : State) (op : HostOp) (rest : List HostOp) :
    step (withOps s (op :: rest)) = hostStep op (withOps s rest) := rfl

/-- A host write of a byte to a memory the host may write, below capacity. -/
theorem step_memWrite {s : State} {sp : Space} (hsp : sp.access = .rw) {a : Nat} (ha : a < s.cfg.capacity sp) (b : Byte)
    (rest : List HostOp) :
    step (withOps s (.memWrite sp a b :: rest)) = .next (withOps (s.writeBytes sp a [b]) rest) := by
  have hwrite : hostMemWrite sp a b (withOps s rest) = (withOps s rest).writeBytes sp a [b] := if_pos ⟨hsp, ha⟩
  rw [step_withOps_cons, ← writeBytes_withOps, ← hwrite]
  rfl

/-- A host write of MLEN. -/
theorem step_setMlen (s : State) (v : Word64) (rest : List HostOp) :
    step (withOps s (.regWrite 0x02 v :: rest)) = .next (withOps (s.setReg .mlen v) rest) :=
  rfl

/-- With no fault recorded the write of a command's word runs the command (R311). -/
theorem step_command {s : State} (hf : s.faulted = false) (i : Instr) (rest : List HostOp) :
    step (withOps s (command i :: rest)) = exec i (withOps s rest) :=
  issueCommand_of_instr (s := withOps s rest) hf (command_word i)

end Sys2Proof.Machine
end

section
/-! PROOFS. The pseudo-instructions of R79 as runs of the machine: LOADMSG (O11) and HASHHEX.v (O54). -/

namespace Sys2Proof.Machine

open Sys2Proof.Claims

/-- A run of byte writes below capacity leaves the bytes where they were written, and nothing else changed (R78). -/
theorem run_writeRun {sp : Space} (hsp : sp.access = .rw) (bs : List Byte) (a : Nat) (s : State) (rest : List HostOp)
    (hcap : a + bs.length ≤ s.cfg.capacity sp) :
    ∃ t, Host.Core.run core bs.length (withOps s (writeRun sp a bs ++ rest)) = .next (withOps t rest) ∧
      (∀ i, i < bs.length → t.peek sp (a + i) = bs.getD i 0) ∧
      Frame s t noReg (fun sp' k => sp' = sp ∧ a ≤ k ∧ k < a + bs.length) := by
  induction bs generalizing a s with
  | nil => exact ⟨s, rfl, fun i hi => absurd hi (Nat.not_lt_zero i), .refl s _ _⟩
  | cons b bs ih =>
    rw [List.length_cons] at hcap
    have hfirst : Frame s (s.writeBytes sp a [b]) noReg (fun sp' k => sp' = sp ∧ a ≤ k ∧ k < a + 1) :=
      frame_writeBytes s sp a [b]
    obtain ⟨t, hrun, hbytes, hframe⟩ := ih (a + 1) (s.writeBytes sp a [b]) (by rw [writeBytes_cfg]; omega)
    refine ⟨t, (run_step (step_memWrite hsp (by omega) b _) _).trans hrun, fun i hi => ?_, ?_⟩
    · cases i with
      | zero =>
        have hkept : t.peek sp a = (s.writeBytes sp a [b]).peek sp a := hframe.peek_eq fun h => by omega
        rw [Nat.add_zero, hkept, peek_writeBytes, dif_pos ⟨Nat.le_refl a, Nat.lt_succ_self a⟩]
        simp
      | succ i =>
        rw [← Nat.add_assoc, Nat.add_right_comm, List.getD_cons_succ]
        exact hbytes i (Nat.lt_of_succ_lt_succ hi)
    · rw [List.length_cons]
      exact (hfirst.mono (fun _ => id) fun _ _ ⟨h, hle, hlt⟩ => ⟨h, hle, by omega⟩).trans
        (hframe.mono (fun _ => id) fun _ _ ⟨h, hle, hlt⟩ => ⟨h, by omega, by omega⟩)

/-- LOADMSG and what comes after it. -/
theorem loadMsg_append (bs : List Byte) (rest : List HostOp) :
    loadMsg bs ++ rest = writeRun .msg 0 bs ++ .regWrite 0x02 (BitVec.ofNat 64 bs.length) :: rest :=
  List.append_assoc _ _ _

/-- Settles O11: the run of byte writes, and then the write of MLEN. -/
theorem loadmsgLoadsTheMessage : Obligations.LoadmsgLoadsTheMessage := by
  intro s bs rest hcap h64
  obtain ⟨t, hrun, hbytes, hframe⟩ := run_writeRun (sp := .msg) rfl bs 0 s
    (.regWrite 0x02 (BitVec.ofNat 64 bs.length) :: rest) (by rwa [Nat.zero_add])
  have hmlen := frame_setReg t .mlen (BitVec.ofNat 64 bs.length)
  refine ⟨withOps (t.setReg .mlen (BitVec.ofNat 64 bs.length)) rest, ?_, rfl, Nat.mod_eq_of_lt h64, fun i hi => ?_,
    frame_withOps ?_ rest⟩
  · rw [loadMsg_append]
    exact (run_append hrun 1).trans (run_step (step_setMlen t _ rest) 0)
  · rw [peek_withOps, hmlen.peek_eq id, ← hbytes i hi, Nat.zero_add]
  · exact (hframe.mono (fun _ => False.elim) fun _ _ ⟨hsp, _, hlt⟩ => ⟨hsp, by omega⟩).trans
      (hmlen.mono_noByte (fun _ => id) _)

/-! The text HEX writes. -/

theorem hexChar_eq_hexDigit {d : Nat} (hd : d < 16) : hexChar d = hexDigit d := by
  have hdigits : ∀ d < 16, hexChar d = hexDigit d := by decide
  exact hdigits d hd

/-- Characters `2 * a` and `2 * a + 1` of the text are the digits of byte `a` (R275). -/
theorem hexText_getElem? {bs : List Byte} {a : Nat} (h : a < bs.length) :
    (hexText bs)[2 * a]? = some (hexDigit (bs[a].toNat / 16)) ∧
      (hexText bs)[2 * a + 1]? = some (hexDigit (bs[a].toNat % 16)) := by
  have hlt : bs[a].toNat < 256 := bs[a].isLt
  have hchars (j : Nat) (hj : j < 2) :=
    flatMap_getElem? (fun b : Byte => [hexChar (b.toNat / 16), hexChar (b.toNat % 16)]) (fun _ => rfl) bs a j h hj
  rw [← hexChar_eq_hexDigit (by omega), ← hexChar_eq_hexDigit (by omega)]
  exact ⟨hchars 0 (by decide), hchars 1 (by decide)⟩

theorem textOf_hexOut (s : State) : TextOf s s.hexOut s.dlen.toNat := by
  intro a ha
  have hbytes : a < (s.readBytes .dout 0 s.dlen.toNat).length := by rwa [readBytes_length]
  have hpeek (k : Nat) (hk : k < 2 * s.dlen.toNat) :
      (hexText (s.readBytes .dout 0 s.dlen.toNat))[k]? = some (s.hexOut.peek .xout k) :=
    getElem?_eq_peek_writeBytes s .xout (by rwa [hexText_length, readBytes_length])
  obtain ⟨hhigh, hlow⟩ := hexText_getElem? hbytes
  rw [hpeek _ (by omega), readBytes_getElem, Nat.zero_add] at hhigh hlow
  exact ⟨Option.some.inj hhigh, Option.some.inj hlow⟩

/-! HASH.v and HEX. -/

/-- HASH.v raises no fault of its own where it is admitted. -/
theorem hashOf_faulted (v : Variant) (s : State) : (s.hashOf v).faulted = s.faulted := by
  have hstatus : ¬hashRegs v .status := by cases v <;> simp [hashRegs, stateFile]
  exact faulted_congr (status_eq_of_getReg ((frame_hashOf v s).getReg_eq hstatus))

/-- Where HASH.v is admitted, DLEN is the output length and is within DOUT. -/
theorem hashOf_dlen_of_admits {v : Variant} {s : State} (h : Admits v s) :
    (s.hashOf v).dlen.toNat = s.outLen v ∧ s.outLen v ≤ s.cfg.doutCap ∧ s.cfg.doutCap < 2 ^ 63 := by
  obtain ⟨⟨_, _, _, _, hdout⟩, _, _, hL⟩ := h
  rw [outputLength_eq] at hL
  rw [hashOf_dlen]
  exact ⟨Nat.mod_eq_of_lt (by omega), hL, by omega⟩

theorem step_hash {v : Variant} {s : State} (h : Admits v s) (hf : s.faulted = false) (rest : List HostOp) :
    step (withOps s (command v.hash :: rest)) = .next (withOps (s.hashOf v) rest) := by
  rw [step_command hf, exec_hash_of_admits (admits_withOps h rest), hashOf_withOps]

theorem step_hex {s : State} (h : s.dlen.toNat ≤ s.cfg.doutCap) (hf : s.faulted = false) (rest : List HostOp) :
    step (withOps s (command .hex :: rest)) = .next (withOps s.hexOut rest) :=
  (step_command hf .hex rest).trans (execHex_next (s := withOps s rest) h)

/-- Settles O54: HASH.v completes with a digest inside DOUT, so HEX completes too. -/
theorem hashhexIsTheTextOfTheDigest : Obligations.HashhexIsTheTextOfTheDigest := by
  intro v s rest hadmits hf
  obtain ⟨hdlen, hL, hdout⟩ := hashOf_dlen_of_admits hadmits
  have hcfg : (s.hashOf v).cfg = s.cfg := (frame_hashOf v s).own_eq.1
  have hfits : (s.hashOf v).dlen.toNat ≤ (s.hashOf v).cfg.doutCap := by rwa [hdlen, hcfg]
  have hhash := step_hash hadmits hf (command .hex :: rest)
  have hhex := step_hex hfits ((hashOf_faulted v s).trans hf) rest
  refine ⟨s.hashOf v, (s.hashOf v).hexOut, exec_hash_of_admits hadmits, ?_, ?_, textOf_hexOut _, frame_hexOut _⟩
  · exact (run_step hhash 1).trans (run_step hhex 0)
  · rw [hexOut_xlen, hdlen]
    exact Nat.mod_eq_of_lt (by omega)

end Sys2Proof.Machine
end

section
/-! PROOFS. Rotation (R100, R101) for every width and amount (O21). The formula of `rotl` is the library's
`rotateLeft`, and `rotr` is a `rotl`; which bit of the operand each bit of the result is then gives the laws. -/

namespace Sys2Proof.Machine

/-- The two terms of a rotation formula have no bit in common, so their sum is their union. -/
theorem rotated_add_eq_or {w m x : Nat} (hm : m ≤ w) (hx : x < 2 ^ w) :
    x * 2 ^ m % 2 ^ w + x / 2 ^ (w - m) = x <<< m % 2 ^ w ||| x >>> (w - m) := by
  have hw : 2 ^ w = 2 ^ m * 2 ^ (w - m) := by rw [← Nat.pow_add, Nat.add_sub_cancel' hm]
  have hlow : x / 2 ^ (w - m) < 2 ^ m := Nat.div_lt_of_lt_mul (by rwa [Nat.mul_comm, ← hw])
  rw [Nat.shiftLeft_eq, Nat.shiftRight_eq_div_pow, hw, Nat.mul_comm x, Nat.mul_mod_mul_left]
  exact Nat.two_pow_add_eq_or_of_lt hlow _

theorem rotated_add_lt {w m x : Nat} (hm : m ≤ w) (hx : x < 2 ^ w) :
    x * 2 ^ m % 2 ^ w + x / 2 ^ (w - m) < 2 ^ w := by
  have hright : x >>> (w - m) < 2 ^ w := (Nat.shiftRight_le x _).trans_lt hx
  rw [rotated_add_eq_or hm hx]
  exact Nat.or_lt_two_pow (Nat.mod_lt _ (Nat.two_pow_pos w)) hright

/-- A place moved up by `m` and then by `w - m`, modulo `w`, is where it was. -/
theorem add_mod_add_sub_mod {w m i : Nat} (hm : m ≤ w) (hi : i < w) : ((i + m) % w + (w - m)) % w = i := by
  rw [Nat.mod_add_mod, Nat.add_assoc, Nat.add_sub_cancel' hm, Nat.add_mod_right, Nat.mod_eq_of_lt hi]

/-- A place moved up by `w - m` and then by `m`, modulo `w`, is where it was. -/
theorem add_sub_mod_add_mod {w m i : Nat} (hm : m ≤ w) (hi : i < w) : ((i + (w - m)) % w + m) % w = i := by
  have h := add_mod_add_sub_mod (Nat.sub_le w m) hi
  rwa [Nat.sub_sub_self hm] at h

section Rotation

variable {w : Nat} (x : BitVec w) (n : Nat)

theorem rotl_add_width : rotl x (n + w) = rotl x n := by rw [rotl, rotl, Nat.add_mod_right]

variable (hw : 0 < w)
include hw

theorem toNat_rotl : (rotl x n).toNat = x.toNat * 2 ^ (n % w) % 2 ^ w + x.toNat / 2 ^ (w - n % w) :=
  Nat.mod_eq_of_lt (rotated_add_lt (Nat.mod_lt n hw).le x.isLt)

theorem toNat_rotr : (rotr x n).toNat = x.toNat / 2 ^ (n % w) + x.toNat * 2 ^ (w - n % w) % 2 ^ w := by
  have hlt := rotated_add_lt (Nat.sub_le w (n % w)) x.isLt
  rw [Nat.sub_sub_self (Nat.mod_lt n hw).le, Nat.add_comm] at hlt
  exact Nat.mod_eq_of_lt hlt

theorem rotl_eq_rotateLeft : rotl x n = x.rotateLeft n := by
  refine BitVec.eq_of_toNat_eq ?_
  rw [toNat_rotl x n hw, BitVec.toNat_rotateLeft, rotated_add_eq_or (Nat.mod_lt n hw).le x.isLt]

/-- A right rotation by `m` is the left rotation by `w - m`: the two terms of the formula change places (R101). -/
theorem rotr_eq_rotl : rotr x n = rotl x ((w - n % w) % w) := by
  have hm : n % w < w := Nat.mod_lt n hw
  by_cases h : n % w = 0
  · simp [rotl, rotr, h, Nat.mod_eq_of_lt x.isLt, Nat.div_eq_of_lt x.isLt]
  · have hlt : w - n % w < w := by omega
    rw [rotl, rotr, Nat.mod_eq_of_lt hlt, Nat.mod_eq_of_lt hlt, Nat.sub_sub_self hm.le, Nat.add_comm]

/-! The place each bit comes from, and the place each bit goes to. -/

theorem getLsbD_rotl {i : Nat} (hi : i < w) : (rotl x n).getLsbD i = x.getLsbD ((i + (w - n % w)) % w) := by
  have hm : n % w < w := Nat.mod_lt n hw
  rw [rotl_eq_rotateLeft x n hw, BitVec.getLsbD_rotateLeft]
  by_cases h : i < n % w
  · have hlt : i + (w - n % w) < w := by omega
    rw [decide_eq_true h, cond_true, Nat.mod_eq_of_lt hlt, Nat.add_comm]
  · have hwrap : i + (w - n % w) = i - n % w + w := by omega
    have hlt : i - n % w < w := by omega
    rw [decide_eq_false h, cond_false, decide_eq_true hi, Bool.true_and, hwrap, Nat.add_mod_right,
      Nat.mod_eq_of_lt hlt]

theorem getLsbD_rotl_add_mod {i : Nat} (hi : i < w) : (rotl x n).getLsbD ((i + n % w) % w) = x.getLsbD i := by
  rw [getLsbD_rotl x n hw (Nat.mod_lt _ hw), add_mod_add_sub_mod (Nat.mod_lt n hw).le hi]

theorem getLsbD_rotr {i : Nat} (hi : i < w) : (rotr x n).getLsbD i = x.getLsbD ((i + n % w) % w) := by
  have hplace := getLsbD_rotl_add_mod x ((w - n % w) % w) hw (Nat.mod_lt (i + n % w) hw)
  rwa [Nat.mod_mod, Nat.add_mod_mod, add_mod_add_sub_mod (Nat.mod_lt n hw).le hi, ← rotr_eq_rotl x n hw] at hplace

theorem getLsbD_rotr_add_mod {i : Nat} (hi : i < w) :
    (rotr x n).getLsbD ((i + (w - n % w)) % w) = x.getLsbD i := by
  rw [getLsbD_rotr x n hw (Nat.mod_lt _ hw), add_sub_mod_add_mod (Nat.mod_lt n hw).le hi]

/-! The laws that follow. -/

theorem rotl_of_mod_eq_zero (hn : n % w = 0) : rotl x n = x := by
  refine BitVec.eq_of_getLsbD_eq fun i hi => ?_
  rw [getLsbD_rotl x n hw hi, hn, Nat.sub_zero, Nat.add_mod_right, Nat.mod_eq_of_lt hi]

theorem rotr_of_mod_eq_zero (hn : n % w = 0) : rotr x n = x := by
  refine BitVec.eq_of_getLsbD_eq fun i hi => ?_
  rw [getLsbD_rotr x n hw hi, hn, Nat.add_zero, Nat.mod_eq_of_lt hi]

theorem rotr_rotl : rotr (rotl x n) n = x := by
  refine BitVec.eq_of_getLsbD_eq fun i hi => ?_
  rw [getLsbD_rotr _ n hw hi, getLsbD_rotl_add_mod x n hw hi]

end Rotation

/-- Settles O21: the formulas need no reduction to the width, and the bits of the result give the rest. -/
theorem rotationLaws : Obligations.RotationLaws := fun _ x n hw =>
  ⟨toNat_rotl x n hw, toNat_rotr x n hw, fun _ => getLsbD_rotl_add_mod x n hw, fun _ => getLsbD_rotr_add_mod x n hw,
    fun hn => ⟨rotl_of_mod_eq_zero x n hw hn, rotr_of_mod_eq_zero x n hw hn⟩, rotr_eq_rotl x n hw, rotr_rotl x n hw,
    rotl_add_width x n⟩

end Sys2Proof.Machine
end

section
/-! PROOFS. Word assembly and serialisation (R102 to R105), and that each is the inverse of the other (O22). The
little-endian laws are proved by induction on the bytes; the big-endian functions are the little-endian ones on the
bytes in reverse order. -/

namespace Sys2Proof.Machine

open Sys2Proof.Claims

/-! The sums of the rules. -/

theorem beSum_congr {n : Nat} {f g : Nat → Byte} (h : ∀ k, k < n → f k = g k) : beSum n f = beSum n g := by
  refine congrArg List.sum (List.map_congr_left fun k hk => ?_)
  rw [h k (List.mem_range.1 hk)]

theorem leSum_congr {n : Nat} {f g : Nat → Byte} (h : ∀ k, k < n → f k = g k) : leSum n f = leSum n g := by
  refine congrArg List.sum (List.map_congr_left fun k hk => ?_)
  rw [h k (List.mem_range.1 hk)]

/-- A byte after the others is the least significant of a big-endian number. -/
theorem beSum_succ (n : Nat) (f : Nat → Byte) : beSum (n + 1) f = beSum n f * 256 + (f n).toNat := by
  have hshift : ∀ k ∈ List.range n,
      (f k).toNat * 2 ^ (8 * (n + 1 - 1 - k)) = (f k).toNat * 2 ^ (8 * (n - 1 - k)) * 256 := by
    intro k hk
    have hk : k < n := List.mem_range.1 hk
    have hexp : 8 * (n + 1 - 1 - k) = 8 * (n - 1 - k) + 8 := by omega
    rw [hexp, Nat.pow_add, Nat.mul_assoc]
  rw [beSum, beSum, List.range_succ, List.map_append, List.sum_append, List.map_congr_left hshift,
    List.sum_map_mul_right]
  simp

/-- A byte before the others is the least significant of a little-endian number. -/
theorem leSum_succ (n : Nat) (f : Nat → Byte) :
    leSum (n + 1) f = (f 0).toNat + 256 * leSum n (fun k => f (k + 1)) := by
  have hshift (k : Nat) : (f (k + 1)).toNat * 2 ^ (8 * (k + 1)) = 256 * ((f (k + 1)).toNat * 2 ^ (8 * k)) := by
    ring
  simp [leSum, List.range_succ_eq_map, Function.comp_def, hshift, List.sum_map_mul_left]

theorem beNat_append_singleton (bs : List Byte) (b : Byte) : beNat (bs ++ [b]) = beNat bs * 256 + b.toNat := by
  simp [beNat]

theorem beNat_eq_beSum (bs : List Byte) : beNat bs = beSum bs.length (fun k => bs.getD k 0) := by
  induction bs using List.reverseRecOn with
  | nil => rfl
  | append_singleton bs b ih =>
    have hfirst : beSum bs.length (fun k => (bs ++ [b]).getD k 0) = beSum bs.length (fun k => bs.getD k 0) :=
      beSum_congr fun k hk => List.getD_append _ _ _ _ hk
    rw [beNat_append_singleton, ih, List.length_append, List.length_singleton, beSum_succ, hfirst]
    simp

theorem leNat_eq_leSum (bs : List Byte) : leNat bs = leSum bs.length (fun k => bs.getD k 0) := by
  induction bs with
  | nil => rfl
  | cons b bs ih => simp [leNat, ih, leSum_succ]

/-- Big-endian is little-endian with the bytes in reverse order. -/
theorem beNat_eq_leNat_reverse (bs : List Byte) : beNat bs = leNat bs.reverse := by
  induction bs using List.reverseRecOn with
  | nil => rfl
  | append_singleton bs b ih =>
    rw [beNat_append_singleton, ih, List.reverse_append, List.reverse_singleton, List.singleton_append, leNat,
      Nat.mul_comm, Nat.add_comm]

theorem leNat_lt (bs : List Byte) : leNat bs < 2 ^ (8 * bs.length) := by
  induction bs with
  | nil => decide
  | cons b bs ih =>
    have hb : b.toNat < 256 := b.isLt
    rw [leNat, List.length_cons, Nat.mul_add, Nat.pow_add]
    omega

/-- Byte `i` of the number a sequence of bytes stands for is byte `i` of the sequence. -/
theorem leNat_div_pow (bs : List Byte) (i : Nat) :
    BitVec.ofNat 8 (leNat bs / 2 ^ (8 * i)) = bs.getD i 0 := by
  induction bs generalizing i with
  | nil => simp [leNat]
  | cons b bs ih =>
    have hb : b.toNat < 256 := b.isLt
    cases i with
    | zero =>
      refine BitVec.eq_of_toNat_eq ?_
      simp [leNat, Nat.mod_eq_of_lt hb]
    | succ i =>
      have htail : leNat (b :: bs) / 256 = leNat bs := by rw [leNat]; omega
      rw [Nat.mul_add, Nat.add_comm, Nat.pow_add, ← Nat.div_div_eq_div_mul, List.getD_cons_succ, ← ih]
      exact congrArg (fun y => BitVec.ofNat 8 (y / 2 ^ (8 * i))) htail

/-- The first `n` bytes of a number stand for its low `8 * n` bits. -/
theorem leNat_bytes (n y : Nat) :
    leNat ((List.range n).map fun i => BitVec.ofNat 8 (y / 2 ^ (8 * i))) = y % 2 ^ (8 * n) := by
  induction n generalizing y with
  | zero => simp [leNat, Nat.mod_one]
  | succ n ih =>
    have hshift (i : Nat) : y / 2 ^ (8 * (i + 1)) = y / 256 / 2 ^ (8 * i) := by
      rw [Nat.div_div_eq_div_mul, Nat.mul_add, Nat.add_comm, Nat.pow_add]
    have htail : leNat ((List.range n).map fun i => BitVec.ofNat 8 (y / 2 ^ (8 * (i + 1)))) =
        y / 256 % 2 ^ (8 * n) := by
      simp only [hshift, ih]
    rw [List.range_succ_eq_map, List.map_cons, List.map_map, leNat, Function.comp_def, htail,
      Nat.mul_add, Nat.add_comm (8 * n), Nat.pow_add, Nat.mod_mul]
    simp

section Words

variable {w : Nat} (hw : 8 ∣ w)
include hw

theorem toNat_leWord {bs : List Byte} (h : bs.length = w / 8) :
    (leWord w bs).toNat = leSum (w / 8) (fun k => bs.getD k 0) := by
  have hlt := leNat_lt bs
  rw [h, Nat.mul_div_cancel' hw] at hlt
  rw [leWord, BitVec.toNat_ofNat, Nat.mod_eq_of_lt hlt, leNat_eq_leSum, h]

theorem toNat_beWord {bs : List Byte} (h : bs.length = w / 8) :
    (beWord w bs).toNat = beSum (w / 8) (fun k => bs.getD k 0) := by
  have hlt := leNat_lt bs.reverse
  rw [← beNat_eq_leNat_reverse, List.length_reverse, h, Nat.mul_div_cancel' hw] at hlt
  rw [beWord, BitVec.toNat_ofNat, Nat.mod_eq_of_lt hlt, beNat_eq_beSum, h]

/-- Big-endian bytes are the little-endian bytes in reverse order. -/
theorem toBe_eq_reverse_toLe (x : BitVec w) : toBe x = (toLe x).reverse := by
  refine List.ext_getElem (by simp) fun i hi _ => ?_
  have hplace : w - 8 - 8 * i = 8 * (w / 8 - 1 - i) := by omega
  rw [toBe_getElem, List.getElem_reverse, toLe_getElem, toLe_length, hplace]

theorem leWord_toLe (x : BitVec w) : leWord w (toLe x) = x := by
  rw [leWord, toLe, leNat_bytes, Nat.mul_div_cancel' hw, Nat.mod_eq_of_lt x.isLt, BitVec.ofNat_toNat,
    BitVec.setWidth_eq]

theorem toLe_leWord {bs : List Byte} (h : bs.length = w / 8) : toLe (leWord w bs) = bs := by
  have hlt := leNat_lt bs
  rw [h, Nat.mul_div_cancel' hw] at hlt
  refine List.ext_getElem (by simp [h]) fun i _ hi => ?_
  rw [toLe_getElem, leWord, BitVec.toNat_ofNat, Nat.mod_eq_of_lt hlt, leNat_div_pow, List.getD_eq_getElem _ _ hi]

theorem beWord_toBe (x : BitVec w) : beWord w (toBe x) = x := by
  rw [beWord, beNat_eq_leNat_reverse, toBe_eq_reverse_toLe hw, List.reverse_reverse]
  exact leWord_toLe hw x

theorem toBe_beWord {bs : List Byte} (h : bs.length = w / 8) : toBe (beWord w bs) = bs := by
  have hle := toLe_leWord hw (bs := bs.reverse) (by rw [List.length_reverse, h])
  rw [toBe_eq_reverse_toLe hw, beWord, beNat_eq_leNat_reverse]
  exact (congrArg List.reverse hle).trans bs.reverse_reverse

end Words

theorem toBe_getD {w : Nat} (x : BitVec w) {i : Nat} (hi : i < w / 8) (b : Byte) : (toBe x).getD i b = beByte x i := by
  have hi : i < (toBe x).length := by rwa [toBe_length]
  rw [List.getD_eq_getElem _ _ hi, toBe_getElem, beByte]

theorem toLe_getD {w : Nat} (x : BitVec w) {i : Nat} (hi : i < w / 8) (b : Byte) : (toLe x).getD i b = leByte x i := by
  have hi : i < (toLe x).length := by rwa [toLe_length]
  rw [List.getD_eq_getElem _ _ hi, toLe_getElem, leByte]

/-- Settles O22: the laws hold at every width that is a whole number of bytes. -/
theorem wordAssemblyLaws : Obligations.WordAssemblyLaws := by
  have hbytes : ∀ w ∈ [32, 64], 8 ∣ w := by decide
  refine ⟨fun w hw bs h => ?_, fun w hw x => ?_, fun w _ x => ?_⟩
  · have hw := hbytes w hw
    exact ⟨toNat_beWord hw h, toNat_leWord hw h, toBe_beWord hw h, toLe_leWord hw h⟩
  · exact ⟨beWord_toBe (hbytes w hw) x, leWord_toLe (hbytes w hw) x⟩
  · exact ⟨toBe_length x, toLe_length x, fun i hi => ⟨toBe_getD x hi 0, toLe_getD x hi 0⟩⟩

end Sys2Proof.Machine
end

section
/-! PROOFS. The sixteen BitOps commands (R106 to R121): the rotates (O23), the word loads (O24) and the word stores
(O25), each family proved once for its command skeleton. -/

namespace Sys2Proof.Machine

open Sys2Proof.Claims

theorem frame_setRes {w : Nat} (s : State) (x : BitVec w) : Frame s (s.setRes x) (· = .res) noByte :=
  frame_setReg s .res (x.setWidth 64)

/-- A command that rotates at width `w` obeys the rule of the rotates (R106 to R113). -/
theorem rotateRule_of_exec {i : Instr} {word : Word32} {w : Nat} {left : Bool} (hcode : encode i = word) (hw : 0 < w)
    (hexec : ∀ s, exec i s = rotateCommand w (if left then rotl else rotr) s) : RotateRule word i w left := by
  refine ⟨hcode, fun s => ⟨_, hexec s, frame_setRes s _, fun j hj => ?_⟩⟩
  rw [setRes_res, BitVec.getLsbD_setWidth, decide_eq_true hj, Bool.true_and]
  by_cases hj : w ≤ j
  · rw [if_pos hj]
    exact BitVec.getLsbD_of_ge _ _ hj
  · have hlow (k : Nat) : (s.opa.setWidth w).getLsbD (k % w) = s.opa.getLsbD (k % w) := by
      rw [BitVec.getLsbD_setWidth, decide_eq_true (Nat.mod_lt k hw), Bool.true_and]
    rw [if_neg hj]
    cases left with
    | true => rw [if_pos rfl, if_pos rfl, getLsbD_rotl _ _ hw (by omega), hlow]
    | false =>
      rw [if_neg Bool.false_ne_true, if_neg Bool.false_ne_true, getLsbD_rotr _ _ hw (by omega), hlow, Nat.add_mod_mod]

/-- Settles O23: each rotate is the rotate skeleton at its width and direction. -/
theorem rotateCommands : Obligations.RotateCommands :=
  ⟨rotateRule_of_exec rfl (by decide) fun _ => rfl, rotateRule_of_exec rfl (by decide) fun _ => rfl,
    rotateRule_of_exec rfl (by decide) fun _ => rfl, rotateRule_of_exec rfl (by decide) fun _ => rfl,
    rotateRule_of_exec rfl (by decide) fun _ => rfl, rotateRule_of_exec rfl (by decide) fun _ => rfl,
    rotateRule_of_exec rfl (by decide) fun _ => rfl, rotateRule_of_exec rfl (by decide) fun _ => rfl⟩

/-- Byte `k` of the first `n` bytes of OPB. -/
theorem slice_opb_getD (opb : Vector Byte 8) {n k : Nat} (hk : k < n) :
    (slice opb.toList 0 n).getD k 0 = (opb[k]?).getD 0 := by
  simp [slice, List.getElem?_take_of_lt hk]

/-- A command that assembles the first `n` bytes of OPB obeys the rule of the loads (R114 to R117). -/
theorem loadRule_of_exec {i : Instr} {word : Word32} {n : Nat} {big : Bool} (hcode : encode i = word) (hn : n ≤ 8)
    (hexec : ∀ s, exec i s = loadWordCommand (8 * n) (if big then beWord (8 * n) else leWord (8 * n)) s) :
    LoadRule word i n big := by
  refine ⟨hcode, fun s => ⟨_, hexec s, frame_setRes s _, ?_⟩⟩
  have h8 : 8 * n / 8 = n := Nat.mul_div_cancel_left n (by decide)
  have hlen : (slice s.opb.toList 0 (8 * n / 8)).length = 8 * n / 8 := by simp [slice]; omega
  rw [setRes_res, BitVec.toNat_setWidth_of_le (by omega)]
  cases big with
  | true =>
    rw [if_pos rfl, if_pos rfl, toNat_beWord (Dvd.intro n rfl) hlen, h8]
    exact beSum_congr fun k hk => slice_opb_getD s.opb hk
  | false =>
    rw [if_neg Bool.false_ne_true, if_neg Bool.false_ne_true, toNat_leWord (Dvd.intro n rfl) hlen, h8]
    exact leSum_congr fun k hk => slice_opb_getD s.opb hk

/-- Settles O24: each LDW is the load skeleton at its number of bytes and byte order. -/
theorem loadWordCommands : Obligations.LoadWordCommands :=
  ⟨loadRule_of_exec rfl (by decide) fun _ => rfl, loadRule_of_exec rfl (by decide) fun _ => rfl,
    loadRule_of_exec rfl (by decide) fun _ => rfl, loadRule_of_exec rfl (by decide) fun _ => rfl⟩

theorem replaceFirst_getElem (opb : Vector Byte 8) (bs : List Byte) (j : Fin 8) :
    (replaceFirst opb bs)[j] = bs.getD j opb[j] := by
  simp [replaceFirst]

/-- A command that serialises the low `8 * n` bits of OPA obeys the rule of the stores (R118 to R121). -/
theorem storeRule_of_exec {i : Instr} {word : Word32} {n : Nat} {big : Bool} (hcode : encode i = word)
    (hexec : ∀ s, exec i s = storeWordCommand (8 * n) (if big then toBe else toLe) s) : StoreRule word i n big := by
  have h8 : 8 * n / 8 = n := Nat.mul_div_cancel_left n (by decide)
  refine ⟨hcode, fun s => ⟨_, hexec s, ?_, fun j hj => ?_⟩⟩
  · have hlen : ((if big then toBe else toLe) (s.opa.setWidth (8 * n))).length = n := by
      cases big <;> simp [h8]
    have hframe := frame_replaceFirst s ((if big then toBe else toLe) (s.opa.setWidth (8 * n)))
    rwa [hlen] at hframe
  · rw [← h8] at hj
    refine (replaceFirst_getElem _ _ j).trans ?_
    cases big with
    | true => exact toBe_getD _ hj _
    | false => exact toLe_getD _ hj _

/-- Settles O25: each STW is the store skeleton at its number of bytes and byte order. -/
theorem storeWordCommands : Obligations.StoreWordCommands :=
  ⟨storeRule_of_exec rfl fun _ => rfl, storeRule_of_exec rfl fun _ => rfl, storeRule_of_exec rfl fun _ => rfl,
    storeRule_of_exec rfl fun _ => rfl⟩

end Sys2Proof.Machine
end

section
/-! PROOFS. The Merkle–Damgård commands besides the block commands: INIT (O26), PAD (O28, O30) and DIGEST (O43). -/

namespace Sys2Proof.Machine

open Sys2Proof.Claims

/-- Settles O26: INIT.v has its effect in every state. -/
theorem merkleDamgardInit : Obligations.MerkleDamgardInit :=
  ⟨⟨rfl, exec_init .md5⟩, ⟨rfl, exec_init .sha1⟩, ⟨rfl, exec_init .sha224⟩, ⟨rfl, exec_init .sha256⟩,
    ⟨rfl, exec_init .sha384⟩, ⟨rfl, exec_init .sha512⟩⟩

/-! The bytes of a word given by its number: those below its width are the number's. -/

theorem leByte_ofNat {n k : Nat} (hk : k < n) (y : Nat) :
    leByte (BitVec.ofNat (8 * n) y) k = BitVec.ofNat 8 (y / 2 ^ (8 * k)) := by
  refine BitVec.eq_of_toNat_eq ?_
  have hsplit : 2 ^ (8 * n) = 2 ^ (8 * k) * (2 ^ 8 * 2 ^ (8 * (n - 1 - k))) := by
    rw [← Nat.pow_add, ← Nat.pow_add]
    congr 1
    omega
  rw [leByte, BitVec.toNat_ofNat, BitVec.toNat_ofNat, BitVec.toNat_ofNat, hsplit, Nat.mod_mul_right_div_self,
    Nat.mod_mul_right_mod]

/-- Byte `k` from the most significant end is byte `n - 1 - k` from the other. -/
theorem beByte_ofNat {n k : Nat} (hk : k < n) (y : Nat) :
    beByte (BitVec.ofNat (8 * n) y) k = BitVec.ofNat 8 (y / 2 ^ (8 * (n - 1 - k))) := by
  have hplace : 8 * n - 8 - 8 * k = 8 * (n - 1 - k) := by omega
  have hlow : n - 1 - k < n := by omega
  rw [← leByte_ofNat hlow, beByte, leByte, hplace]

/-! PAD. -/

/-- The length field of a padded message: the bit length in `lf` bytes (R134, R154, R177). -/
def lengthField (lf : Nat) (big : Bool) (m : List Byte) : List Byte :=
  (if big then toBe else toLe) (BitVec.ofNat (8 * lf) (8 * m.length))

theorem lengthField_length (lf : Nat) (big : Bool) (m : List Byte) : (lengthField lf big m).length = lf := by
  cases big <;> simp [lengthField]

theorem lengthField_getElem? {lf k : Nat} (hk : k < lf) (big : Bool) (m : List Byte) :
    (lengthField lf big m)[k]? =
      some (BitVec.ofNat 8 (8 * m.length / 2 ^ (8 * (if big then lf - 1 - k else k)))) := by
  have hlen : k < (lengthField lf big m).length := by rwa [lengthField_length]
  have h8 : k < 8 * lf / 8 := by omega
  rw [List.getElem?_eq_getElem hlen, ← List.getD_eq_getElem _ 0 hlen]
  cases big with
  | true => exact congrArg some ((toBe_getD _ h8 0).trans (beByte_ofNat hk _))
  | false => exact congrArg some ((toLe_getD _ h8 0).trans (leByte_ofNat hk _))

/-- Byte `a` of a padded message: the message, 0x80, zeros, the length field (R134, R154, R177). -/
theorem mdPad_getElem? {bs lf : Nat} (hbs : 0 < bs) (field m : List Byte) (a : Nat) :
    (mdPad bs lf field m)[a]? =
      if a < m.length then m[a]?
      else if a = m.length then some 0x80
      else if a < padTo bs lf m.length - lf then some 0
      else field[a - (padTo bs lf m.length - lf)]? := by
  have hfits : m.length + lf < padTo bs lf m.length := Nat.lt_mul_div_succ _ hbs
  have hzeros : padTo bs lf m.length - m.length - 1 - lf = padTo bs lf m.length - lf - (m.length + 1) := by omega
  have hpad : mdPad bs lf field m =
      m ++ 0x80 :: (List.replicate (padTo bs lf m.length - lf - (m.length + 1)) 0 ++ field) := by
    rw [← hzeros, mdPad, padTo]
    simp
  rw [hpad]
  split_ifs with hmsg hend hzero
  · exact List.getElem?_append_left hmsg
  · rw [hend, List.getElem?_append_right le_rfl, Nat.sub_self, List.getElem?_cons_zero]
  all_goals
    have hrest : a - m.length = a - (m.length + 1) + 1 := by omega
    rw [List.getElem?_append_right (by omega), hrest, List.getElem?_cons_succ]
  · rw [List.getElem?_append_left (by rw [List.length_replicate]; omega), List.getElem?_replicate_of_lt (by omega)]
  · rw [List.getElem?_append_right (by rw [List.length_replicate]; omega), List.length_replicate]
    congr 1
    omega

theorem message_getElem? {s : State} {a : Nat} (ha : a < s.mlen.toNat) : s.message[a]? = some (s.peek .msg a) := by
  simp [State.message, State.readBytes, ha]

/-- A PAD whose padded message is `mdPad` obeys the rule of the Merkle–Damgård PADs (R134, R154, R182 to R185). -/
theorem mdPadRule_of_variant {v : Variant} {word : Word32} {bs lf : Nat} {big : Bool} (hcode : encode v.pad = word)
    (hbs : 0 < bs) (hlen : ∀ n, v.paddedLen n = padTo bs lf n)
    (hpad : ∀ m, padBytes v m = mdPad bs lf (lengthField lf big m) m) : MdPadRule word v.pad bs lf big := by
  refine ⟨hcode, fun s hlegal => ?_⟩
  rw [← hlen]
  refine ⟨fun h => ?_, fun h h' => ?_, fun h h' => ⟨s.padOf v, ?_, ?_, fun a ha => ?_, frame_padOf v s⟩⟩
  · rw [exec_pad, padCommand, if_pos h, raise]
  · rw [exec_pad, padCommand, if_neg (by omega), if_pos h', raise]
  · rw [exec_pad, padCommand_next _ h h']
  · rw [padOf_eq, storePadded_plen, BitVec.toNat_ofNat]
    exact Nat.mod_eq_of_lt (by omega)
  · have hfits : s.mlen.toNat + lf < v.paddedLen s.mlen.toNat := by
      rw [hlen]
      exact Nat.lt_mul_div_succ _ hbs
    have hbyte := peek_padOf v s ha
    rw [hpad, mdPad_getElem? hbs, message_length, ← hlen] at hbyte
    apply Option.some.inj
    rw [← hbyte]
    split_ifs with hmsg hend hzero hbig
    · exact message_getElem? hmsg
    · rfl
    · rfl
    · have hplace : lf - 1 - (a - (v.paddedLen s.mlen.toNat - lf)) = v.paddedLen s.mlen.toNat - 1 - a := by omega
      rw [lengthField_getElem? (by omega), message_length, if_pos hbig, hplace]
    · rw [lengthField_getElem? (by omega), message_length, if_neg hbig]

/-- Settles O28: the padded message of each variant is `mdPad` at its block size, field width and byte order. -/
theorem merkleDamgardPad : Obligations.MerkleDamgardPad :=
  ⟨mdPadRule_of_variant (v := .md5) rfl (by decide) (fun _ => rfl) fun _ => rfl,
    mdPadRule_of_variant (v := .sha1) rfl (by decide) (fun _ => rfl) fun _ => rfl,
    mdPadRule_of_variant (v := .sha224) rfl (by decide) (fun _ => rfl) fun _ => rfl,
    mdPadRule_of_variant (v := .sha256) rfl (by decide) (fun _ => rfl) fun _ => rfl,
    mdPadRule_of_variant (v := .sha384) rfl (by decide) (fun _ => rfl) fun _ => rfl,
    mdPadRule_of_variant (v := .sha512) rfl (by decide) (fun _ => rfl) fun _ => rfl⟩

/-- Settles O30: both rules give the same bytes below the length field, and in it byte k from the one end is byte k from
the other. -/
theorem md5AndSha1PadDifferInTheLengthField : Obligations.Md5AndSha1PadDifferInTheLengthField := by
  intro s hlegal hmsg hpbuf
  obtain ⟨⟨_, hmd5⟩, ⟨_, hsha1⟩, _⟩ := merkleDamgardPad
  obtain ⟨t, ht, htplen, htbyte, _⟩ := (hmd5 s hlegal).2.2 hmsg hpbuf
  obtain ⟨u, hu, huplen, hubyte, _⟩ := (hsha1 s hlegal).2.2 hmsg hpbuf
  have hfits : s.mlen.toNat + 8 < padTo 64 8 s.mlen.toNat := Nat.lt_mul_div_succ _ (by decide)
  generalize padTo 64 8 s.mlen.toNat = P at *
  refine ⟨t, u, ht, hu, BitVec.eq_of_toNat_eq (htplen.trans huplen.symm), fun a ha => ?_, fun k hk => ?_⟩
  · have ha : a < P - 8 := by omega
    rw [htbyte a (by omega), hubyte a (by omega), if_pos ha, if_pos ha]
  · have hlittle : t.peek .pbuf (P - 8 + k) = BitVec.ofNat 8 (8 * s.mlen.toNat / 2 ^ (8 * k)) := by
      rw [htbyte _ (by omega), if_neg (by omega), if_neg (by omega), if_neg (by omega), if_neg Bool.false_ne_true,
        Nat.add_sub_cancel_left]
    have hbig : u.peek .pbuf (P - 1 - k) = BitVec.ofNat 8 (8 * s.mlen.toNat / 2 ^ (8 * k)) := by
      have hk' : k ≤ P - 1 := by omega
      rw [hubyte _ (by omega), if_neg (by omega), if_neg (by omega), if_neg (by omega), if_pos rfl,
        Nat.sub_sub_self hk']
    rw [htplen, huplen, hlittle, hbig]

/-! DIGEST. -/

/-- Byte `a` of words serialised into `n` bytes each is byte `a % n` of word `a / n`. -/
theorem flatMap_getElem?_byte {w n a : Nat} {f : BitVec w → List Byte} {byte : BitVec w → Nat → Byte}
    (hf : ∀ x, (f x).length = n) (hbyte : ∀ x k, k < n → (f x).getD k 0 = byte x k) {l : List (BitVec w)}
    (ha : a < n * l.length) : (l.flatMap f)[a]? = some (byte (l.getD (a / n) 0) (a % n)) := by
  have hn : 0 < n := Nat.pos_of_mul_pos_right (Nat.zero_lt_of_lt ha)
  have hk : a / n < l.length := Nat.div_lt_of_lt_mul ha
  have hj : a % n < n := Nat.mod_lt a hn
  have hjf : a % n < (f (l.getD (a / n) 0)).length := by rwa [hf]
  have hword := flatMap_getElem? f hf l _ _ hk hj
  rw [Nat.div_add_mod, ← List.getD_eq_getElem _ 0 hk] at hword
  rw [hword, List.getElem?_eq_getElem hjf, ← List.getD_eq_getElem _ 0 hjf, hbyte _ _ hj]

/-- A DIGEST of `L` bytes obeys the rule of the DIGESTs when its bytes are the ones named. -/
theorem digestRule_of_variant {v : Variant} {word : Word32} {L : Nat} {byteAt : State → Nat → Byte}
    (hcode : encode v.out = word) (hv : v ∉ spongeVariants) (hL : ∀ s : State, s.outLen v = L) (h64 : L < 2 ^ 64)
    (hbytes : ∀ s a, a < L → (digestBytes v s)[a]? = some (byteAt s a)) : DigestRule word v.out L byteAt := by
  refine ⟨hcode, fun s => ⟨s.outOf v, ?_, ?_, fun a ha => ?_, ?_⟩⟩
  · rw [exec_out, if_neg hv]
  · rw [outOf_dlen, hL]
    exact Nat.mod_eq_of_lt h64
  · have hpeek := peek_outOf v s (by rwa [hL])
    exact Option.some.inj (hpeek.symm.trans (hbytes s a ha))
  · have hframe := frame_outOf v s
    rw [hL] at hframe
    exact hframe.mono (fun _ hr => hr.resolve_right fun ⟨hsponge, _⟩ => hv hsponge) fun _ _ => id

theorem take_getD {α : Type} (l : List α) {k n : Nat} (hk : k < n) (d : α) : (l.take n).getD k d = l.getD k d := by
  rw [List.getD_eq_getElem?_getD, List.getElem?_take_of_lt hk, ← List.getD_eq_getElem?_getD]

/-- Settles O43: each digest is the words of the state file serialised, the first seven or six of them where it is
truncated. -/
theorem digestCommands : Obligations.DigestCommands := by
  have hle (x : Word32) (k : Nat) (hk : k < 4) : (toLe x).getD k 0 = leByte x k := toLe_getD x hk 0
  have hbe32 (x : Word32) (k : Nat) (hk : k < 4) : (toBe x).getD k 0 = beByte x k := toBe_getD x hk 0
  have hbe64 (x : Word64) (k : Nat) (hk : k < 8) : (toBe x).getD k 0 = beByte x k := toBe_getD x hk 0
  refine ⟨digestRule_of_variant (v := .md5) rfl (by decide) (fun _ => rfl) (by decide) fun s a ha => ?_,
    digestRule_of_variant (v := .sha1) rfl (by decide) (fun _ => rfl) (by decide) fun s a ha => ?_,
    digestRule_of_variant (v := .sha224) rfl (by decide) (fun _ => rfl) (by decide) fun s a ha => ?_,
    digestRule_of_variant (v := .sha256) rfl (by decide) (fun _ => rfl) (by decide) fun s a ha => ?_,
    digestRule_of_variant (v := .sha384) rfl (by decide) (fun _ => rfl) (by decide) fun s a ha => ?_,
    digestRule_of_variant (v := .sha512) rfl (by decide) (fun _ => rfl) (by decide) fun s a ha => ?_⟩
  · exact flatMap_getElem?_byte toLe_length hle (by simpa using ha)
  · exact flatMap_getElem?_byte toBe_length hbe32 (by simpa using ha)
  · rw [← take_getD s.s32h.toList (by omega : a / 4 < 7)]
    exact flatMap_getElem?_byte toBe_length hbe32 (by simpa using ha)
  · exact flatMap_getElem?_byte toBe_length hbe32 (by simpa using ha)
  · rw [← take_getD s.s64h.toList (by omega : a / 8 < 6)]
    exact flatMap_getElem?_byte toBe_length hbe64 (by simpa using ha)
  · exact flatMap_getElem?_byte toBe_length hbe64 (by simpa using ha)

end Sys2Proof.Machine
end

section
/-! PROOFS. The rule of the block commands for any variant, and COMPRESS.MD5 (O31). -/

namespace Sys2Proof.Machine

open Sys2Proof.Claims

/-- A block command obeys its rule (R135, R250) when its effect has the result named. -/
theorem blockRule_of_variant {v : Variant} {word : Word32} {bs : Nat} {result : State → State → Prop}
    (hcode : encode v.blockCmd = word) (hbs : v.blockSize = bs) (hresult : ∀ s : State, result s (s.blockOf v)) :
    BlockRule word v bs result := by
  subst hbs
  refine ⟨hcode, fun s => ⟨fun h => ?_, fun hcap hblock => ⟨s.blockOf v, ?_, hresult s, ?_, frame_blockOf v s⟩⟩⟩
  · rw [exec_blockCmd, blockCommand, if_pos h, raise]
  · rw [exec_blockCmd, blockCommand_next _ hcap hblock]
  · have hbidx : s.bidx.toNat + 1 ≤ s.plen.toNat := (Nat.le_mul_of_pos_left _ v.blockSize_pos).trans hblock
    rw [blockOf_bidx, BitVec.toNat_add_of_lt]
    · rfl
    · show s.bidx.toNat + 1 < 2 ^ 64
      omega

/-- Word `j` of a block is assembled from its own bytes (R52). -/
theorem blockWords_getD {w j : Nat} (assemble : List Byte → BitVec w) (B : List Byte) (hj : j < 16) :
    (blockWords assemble B).getD j 0 = assemble (slice B (w / 8 * j) (w / 8)) := by
  simp [blockWords, hj]

theorem slice_block_getD (s : State) {bs a n k : Nat} (ha : a + n ≤ bs) (hk : k < n) :
    (slice (s.block bs) a n).getD k 0 = blockByte s bs (a + k) := by
  have hlt : a + k < bs := by omega
  simp [slice, State.block, State.readBytes, blockByte, List.getElem?_take_of_lt hk, hlt]

theorem slice_block_length (s : State) {bs a n : Nat} (ha : a + n ≤ bs) : (slice (s.block bs) a n).length = n := by
  rw [slice, List.length_take, List.length_drop, block_length]
  omega

/-- Word `j` of block BIDX in little-endian order (R52, R135). -/
theorem toNat_blockWords_leWord {w : Nat} (hw : 8 ∣ w) (s : State) {j : Nat} (hj : j < 16) :
    ((blockWords (leWord w) (s.block (16 * (w / 8)))).getD j 0).toNat =
      leSum (w / 8) fun k => blockByte s (16 * (w / 8)) (w / 8 * j + k) := by
  have hfits : w / 8 * j + w / 8 ≤ 16 * (w / 8) := by
    rw [← Nat.mul_succ, Nat.mul_comm 16]
    exact Nat.mul_le_mul_left _ hj
  rw [blockWords_getD _ _ hj, toNat_leWord hw (slice_block_length s hfits)]
  exact leSum_congr fun k hk => slice_block_getD s hfits hk

/-! MD5. -/

theorem md5Mix_eq (q : Nat) (b c d : Word32) : md5Mix q b c d = md5Function q b c d := by
  match q with
  | 0 | 1 | 2 | _ + 3 => rfl

/-- The tables of R132 and its formulas. -/
theorem md5_tables : ∀ i < 64,
    md5G i = (md5Order (i / 16)).getD (i % 16) 0 ∧ md5S i = (md5Amounts (i / 16)).getD (i % 4) 0 := by
  decide

/-- The working variables a, b, c, d as a vector. -/
def Md5Vars.words (v : Md5Vars) : Vector Word32 4 := #v[v.a, v.b, v.c, v.d]

/-- A step on the words `X`, by the tables of R132 (R135). -/
theorem words_md5Step (X : List Word32) (v : Md5Vars) {i : Nat} (hi : i < 64) :
    (md5Step X v i).words =
      #v[v.words[3],
         v.words[1] + rotl (v.words[0] + md5Function (i / 16) v.words[1] v.words[2] v.words[3] +
           X.getD ((md5Order (i / 16)).getD (i % 16) 0) 0 + md5K.getD i 0) ((md5Amounts (i / 16)).getD (i % 4) 0),
         v.words[1],
         v.words[2]] := by
  obtain ⟨horder, hamount⟩ := md5_tables i hi
  rw [← horder, ← hamount, ← md5Mix_eq]
  rfl

/-- The working variables before step `n` of COMPRESS.MD5 (R135). -/
def md5VarsBefore (s : State) (n : Nat) : Md5Vars :=
  md5Steps (blockWords (leWord 32) (s.block 64)) ⟨s.md5h[0], s.md5h[1], s.md5h[2], s.md5h[3]⟩ n

theorem md5VarsBefore_succ (s : State) (n : Nat) :
    md5VarsBefore s (n + 1) = md5Step (blockWords (leWord 32) (s.block 64)) (md5VarsBefore s n) n := by
  rw [md5VarsBefore, md5Steps, List.range_succ, List.foldl_append]
  rfl

theorem md5Result_compressMd5 (s : State) : Md5Result s s.compressMd5 := by
  refine ⟨fun j => (blockWords (leWord 32) (s.block 64)).getD j 0, fun n => (md5VarsBefore s n).words,
    fun j hj => toNat_blockWords_leWord (by decide) s hj, ?_, fun i hi => ?_, fun j => ?_⟩
  · refine Vector.ext fun j hj => ?_
    interval_cases j <;> rfl
  · exact (congrArg Md5Vars.words (md5VarsBefore_succ s i)).trans (words_md5Step _ _ hi)
  · fin_cases j <;> rfl

/-- Settles O31: COMPRESS.MD5 is the block command whose effect is the 64 steps and the feed-forward. -/
theorem compressMd5 : Obligations.CompressMd5 :=
  blockRule_of_variant rfl rfl md5Result_compressMd5

end Sys2Proof.Machine
end

section
/-! PROOFS. The constants of MD5 are the sines of R132 (O32). The Taylor polynomial of `exp` at I is a point of the unit
disc with rational coordinates; its n-th power, computed in integers, is within n times the polynomial's error of
exp(n * I), whose imaginary part is sin n. -/

namespace Sys2Proof.Machine

/-- The Taylor polynomial of degree 19 of `exp` at I. -/
noncomputable def taylorExpI : ℂ := ∑ m ∈ Finset.range 20, Complex.I ^ m / (m.factorial : ℂ)

/-- The common denominator of the terms of `taylorExpI`. -/
def turnDen : Nat := Nat.factorial 19

/-- The real part of `turnDen * taylorExpI`. -/
def turnRe : ℤ := 65725128248453315

/-- The imaginary part of `turnDen * taylorExpI`. -/
def turnIm : ℤ := 102360822438075317

/-- The real and the imaginary part of `(turnDen * taylorExpI) ^ n`. -/
def turn : Nat → ℤ × ℤ
  | 0 => (1, 0)
  | n + 1 => (turnRe * (turn n).1 - turnIm * (turn n).2, turnRe * (turn n).2 + turnIm * (turn n).1)

theorem turnDen_pos : (0 : ℝ) < turnDen := by simp [turnDen, Nat.factorial]

theorem taylorExpI_eq : taylorExpI = (turnRe + turnIm * Complex.I) / turnDen := by
  have hI (m : Nat) : Complex.I ^ (m + 4) = Complex.I ^ m := by rw [pow_add, Complex.I_pow_four, mul_one]
  simp only [taylorExpI, Finset.sum_range_succ, Finset.sum_range_zero, hI, Complex.I_sq, Complex.I_pow_three, pow_zero,
    pow_one, turnDen, turnRe, turnIm, Nat.factorial]
  push_cast
  ring

theorem taylorExpI_pow (n : Nat) : taylorExpI ^ n = ((turn n).1 + (turn n).2 * Complex.I) / turnDen ^ n := by
  induction n with
  | zero => simp [turn]
  | succ n ih =>
    have hmul (a b c d : ℂ) :
        (a + b * Complex.I) * (c + d * Complex.I) = (c * a - d * b) + (c * b + d * a) * Complex.I := by
      linear_combination b * d * Complex.I_mul_I
    rw [pow_succ, ih, taylorExpI_eq, div_mul_div_comm, hmul, ← pow_succ]
    simp [turn]

theorem norm_taylorExpI_le : ‖taylorExpI‖ ≤ 1 := by
  rw [taylorExpI_eq, norm_div, Complex.norm_natCast, div_le_one turnDen_pos, Complex.norm_eq_sqrt_sq_add_sq]
  refine Real.sqrt_le_iff.2 ⟨turnDen_pos.le, ?_⟩
  norm_num [turnDen, turnRe, turnIm, Nat.factorial]

/-- The remainder of the Taylor polynomial. -/
theorem norm_exp_I_sub_taylorExpI_le : ‖Complex.exp Complex.I - taylorExpI‖ ≤ 21 / 400 / turnDen := by
  have hI : ‖Complex.I‖ ≤ 1 := Complex.norm_I.le
  have hbound := Complex.exp_bound hI (n := 20) (by decide)
  rw [← taylorExpI] at hbound
  refine hbound.trans ?_
  rw [Complex.norm_I]
  norm_num [turnDen, Nat.factorial]

/-- In the unit disc the n-th power moves at most `n` times as far as its argument. -/
theorem norm_pow_sub_pow_le {u z : ℂ} (hu : ‖u‖ ≤ 1) (hz : ‖z‖ ≤ 1) (n : Nat) :
    ‖u ^ n - z ^ n‖ ≤ n * ‖u - z‖ := by
  induction n with
  | zero => simp
  | succ n ih =>
    have hsplit : u ^ (n + 1) - z ^ (n + 1) = u * (u ^ n - z ^ n) + (u - z) * z ^ n := by ring
    calc ‖u ^ (n + 1) - z ^ (n + 1)‖ ≤ ‖u‖ * ‖u ^ n - z ^ n‖ + ‖u - z‖ * ‖z‖ ^ n := by
          rw [hsplit, ← norm_pow, ← norm_mul, ← norm_mul]
          exact norm_add_le _ _
      _ ≤ 1 * (n * ‖u - z‖) + ‖u - z‖ * 1 := by
          gcongr
          exact pow_le_one₀ (norm_nonneg z) hz
      _ = (n + 1 : Nat) * ‖u - z‖ := by push_cast; ring

/-- The computed value of `|sin n|`. -/
noncomputable def absSin (n : Nat) : ℝ := |((turn n).2 : ℝ)| / turnDen ^ n

theorem abs_sin_sub_absSin_le {n : Nat} (hn : n ≤ 64) : |(|Real.sin n| - absSin n)| ≤ 4 / turnDen := by
  have hexp : (Complex.exp Complex.I ^ n).im = Real.sin n := by
    rw [← Complex.exp_nat_mul, ← Complex.exp_ofReal_mul_I_im, Complex.ofReal_natCast]
  have htaylor : (taylorExpI ^ n).im = (turn n).2 / turnDen ^ n := by
    rw [taylorExpI_pow, ← Nat.cast_pow, Complex.div_natCast_im]
    simp
  have habs : absSin n = |(taylorExpI ^ n).im| := by
    rw [htaylor, absSin, abs_div, abs_of_pos (pow_pos turnDen_pos n)]
  have hunit : ‖Complex.exp Complex.I‖ ≤ 1 := by simpa using (Complex.norm_exp_ofReal_mul_I 1).le
  have hn : (n : ℝ) ≤ 64 := by exact_mod_cast hn
  rw [habs, ← hexp]
  calc _ ≤ |(Complex.exp Complex.I ^ n - taylorExpI ^ n).im| := abs_abs_sub_abs_le _ _
    _ ≤ ‖Complex.exp Complex.I ^ n - taylorExpI ^ n‖ := Complex.abs_im_le_norm _
    _ ≤ n * ‖Complex.exp Complex.I - taylorExpI‖ := norm_pow_sub_pow_le hunit norm_taylorExpI_le n
    _ ≤ 64 * (21 / 400 / turnDen) := by gcongr; exact norm_exp_I_sub_taylorExpI_le
    _ ≤ 4 / turnDen := by rw [mul_div_assoc']; gcongr; norm_num

/-- Each constant is the integer part of the computed value times 2^32, with room for the error on both sides. -/
theorem md5K_turn : ∀ i < 64,
    (md5K.getD i 0).toNat * turnDen ^ (i + 1) + 2 ^ 32 * (4 * turnDen ^ i) ≤ 2 ^ 32 * (turn (i + 1)).2.natAbs ∧
      2 ^ 32 * (turn (i + 1)).2.natAbs + 2 ^ 32 * (4 * turnDen ^ i) <
        ((md5K.getD i 0).toNat + 1) * turnDen ^ (i + 1) := by
  decide

theorem md5K_absSin {i : Nat} (hi : i < 64) :
    ((md5K.getD i 0).toNat : ℝ) + 2 ^ 32 * (4 / turnDen) ≤ 2 ^ 32 * absSin (i + 1) ∧
      2 ^ 32 * absSin (i + 1) + 2 ^ 32 * (4 / turnDen) < (md5K.getD i 0).toNat + 1 := by
  obtain ⟨hlow, hhigh⟩ := md5K_turn i hi
  generalize md5K.getD i 0 = K at *
  have hD (n : Nat) : (0 : ℝ) < (turnDen : ℝ) ^ n := pow_pos turnDen_pos n
  have hmargin : (4 : ℝ) / turnDen = 4 * turnDen ^ i / turnDen ^ (i + 1) := by
    rw [pow_succ', mul_div_mul_right _ _ (hD i).ne']
  rify at hlow hhigh
  rw [absSin, hmargin, mul_div_assoc', mul_div_assoc']
  constructor
  · rw [← le_sub_iff_add_le, ← sub_div, le_div_iff₀ (hD _)]
    linarith
  · rw [← add_div, div_lt_iff₀ (hD _)]
    exact hhigh

/-- Settles O32: the room each constant leaves is the distance of the sine from its computed value. -/
theorem md5ConstantsAreSines : Obligations.Md5ConstantsAreSines := by
  refine ⟨by decide, fun i hi => ?_⟩
  obtain ⟨hlow, hhigh⟩ := md5K_absSin hi
  have hsin := abs_sub_le_iff.1 (abs_sin_sub_absSin_le (n := i + 1) hi)
  push_cast at hsin
  rw [Int.floor_eq_iff, Int.cast_natCast]
  constructor <;> linarith

end Sys2Proof.Machine
end

section
/-! PROOFS. Schedules that grow a list by one word at a time, and COMPRESS.SHA1 (O33). -/

namespace Sys2Proof.Machine

open Sys2Proof.Claims

/-! A list grown word by word, each new word computed from the words before it: the recursion of the schedules of SHA-1
(R152) and SHA-2 (R175). -/

section
variable {α : Type} {next : List α → α} {extend : Nat → List α → List α} (hzero : ∀ ws, extend 0 ws = ws)
  (hsucc : ∀ n ws, extend (n + 1) ws = extend n (ws ++ [next ws]))
include hzero hsucc

theorem extend_length (n : Nat) (ws : List α) : (extend n ws).length = ws.length + n := by
  induction n generalizing ws with
  | zero => rw [hzero, Nat.add_zero]
  | succ n ih => rw [hsucc, ih, List.length_append, List.length_singleton, Nat.add_right_comm, Nat.add_assoc]

theorem prefix_extend (n : Nat) (ws : List α) : ws <+: extend n ws := by
  induction n generalizing ws with
  | zero => rw [hzero]
  | succ n ih => exact hsucc n ws ▸ (ws.prefix_append _).trans (ih _)

theorem extend_getD_of_lt (n : Nat) {ws : List α} {i : Nat} (hi : i < ws.length) (d : α) :
    (extend n ws).getD i d = ws.getD i d := by
  obtain ⟨later, hlater⟩ := prefix_extend hzero hsucc n ws
  rw [← hlater, List.getD_append _ _ _ _ hi]

/-- Each further word is the next word of those before it. -/
theorem extend_getD_of_le {n i : Nat} {ws : List α} (hlow : ws.length ≤ i) (hhigh : i < ws.length + n) (d : α) :
    (extend n ws).getD i d = next ((extend n ws).take i) := by
  induction n generalizing ws with
  | zero => omega
  | succ n ih =>
    rw [hsucc]
    obtain rfl | hlt := hlow.eq_or_lt
    · obtain ⟨later, hlater⟩ := prefix_extend hzero hsucc n (ws ++ [next ws])
      simp [← hlater]
    · exact ih (by simpa using hlt) (by simp; omega)

end

/-- Word `j` of block BIDX in big-endian order (R52, R152). -/
theorem toNat_blockWords_beWord {w : Nat} (hw : 8 ∣ w) (s : State) {j : Nat} (hj : j < 16) :
    ((blockWords (beWord w) (s.block (16 * (w / 8)))).getD j 0).toNat =
      beSum (w / 8) fun k => blockByte s (16 * (w / 8)) (w / 8 * j + k) := by
  have hfits : w / 8 * j + w / 8 ≤ 16 * (w / 8) := by
    rw [← Nat.mul_succ, Nat.mul_comm 16]
    exact Nat.mul_le_mul_left _ hj
  rw [blockWords_getD _ _ hj, toNat_beWord hw (slice_block_length s hfits)]
  exact beSum_congr fun k hk => slice_block_getD s hfits hk

theorem blockWords_length {w : Nat} (assemble : List Byte → BitVec w) (B : List Byte) :
    (blockWords assemble B).length = 16 := by
  rw [blockWords, List.length_map, List.length_range]

/-! The schedule of SHA-1 (R152). -/

theorem sha1Schedule_length (B : List Byte) : (sha1Schedule B).length = 80 := by
  rw [sha1Schedule, extend_length (fun _ => rfl) (fun _ _ => rfl), blockWords_length]

theorem sha1Schedule_getD_of_lt (B : List Byte) {j : Nat} (hj : j < 16) :
    (sha1Schedule B).getD j 0 = (blockWords (beWord 32) B).getD j 0 :=
  extend_getD_of_lt (fun _ => rfl) (fun _ _ => rfl) 64 (by rwa [blockWords_length]) 0

theorem sha1NextWord_take {ws : List Word32} {i : Nat} (hlow : 16 ≤ i) (hhigh : i ≤ ws.length) :
    sha1NextWord (ws.take i) =
      rotl (ws.getD (i - 3) 0 ^^^ ws.getD (i - 8) 0 ^^^ ws.getD (i - 14) 0 ^^^ ws.getD (i - 16) 0) 1 := by
  have hback {k : Nat} (hk : 0 < k) : (ws.take i).getD (i - k) 0 = ws.getD (i - k) 0 := take_getD ws (by omega) 0
  rw [sha1NextWord, List.length_take, Nat.min_eq_left hhigh, hback (by decide), hback (by decide), hback (by decide),
    hback (by decide)]

theorem sha1Schedule_getD_of_le (B : List Byte) {i : Nat} (hlow : 16 ≤ i) (hhigh : i < 80) :
    (sha1Schedule B).getD i 0 =
      rotl ((sha1Schedule B).getD (i - 3) 0 ^^^ (sha1Schedule B).getD (i - 8) 0 ^^^
        (sha1Schedule B).getD (i - 14) 0 ^^^ (sha1Schedule B).getD (i - 16) 0) 1 := by
  rw [← sha1NextWord_take hlow (by rw [sha1Schedule_length]; exact hhigh.le)]
  exact extend_getD_of_le (fun _ => rfl) (fun _ _ => rfl) (by rwa [blockWords_length]) (by rwa [blockWords_length]) 0

/-! The rounds of SHA-1 (R155). -/

theorem sha1Mix_eq (q : Nat) (b c d : Word32) : sha1Mix q b c d = sha1Function q b c d := by
  match q with
  | 0 | 1 | 2 | _ + 3 => rfl

theorem sha1K_eq {q : Nat} (hq : q < 4) :
    sha1K q = [0x5a827999, 0x6ed9eba1, 0x8f1bbcdc, 0xca62c1d6].getD q 0 := by
  interval_cases q <;> rfl

/-- The working variables a to e as a vector. -/
def Sha1Vars.words (v : Sha1Vars) : Vector Word32 5 := #v[v.a, v.b, v.c, v.d, v.e]

/-- A round on the schedule `W`, by the functions and constants of R151 (R155). -/
theorem words_sha1Round (W : List Word32) (v : Sha1Vars) {i : Nat} (hi : i < 80) :
    (sha1Round W v i).words =
      #v[rotl v.words[0] 5 + sha1Function (i / 20) v.words[1] v.words[2] v.words[3] + v.words[4] + W.getD i 0 +
           [0x5a827999, 0x6ed9eba1, 0x8f1bbcdc, 0xca62c1d6].getD (i / 20) 0,
         v.words[0],
         rotl v.words[1] 30,
         v.words[2],
         v.words[3]] := by
  rw [← sha1K_eq (Nat.div_lt_of_lt_mul hi), ← sha1Mix_eq]
  rfl

/-- The working variables before round `n` of COMPRESS.SHA1 (R155). -/
def sha1VarsBefore (s : State) (n : Nat) : Sha1Vars :=
  sha1Rounds (sha1Schedule (s.block 64)) ⟨s.sha1h[0], s.sha1h[1], s.sha1h[2], s.sha1h[3], s.sha1h[4]⟩ n

theorem sha1VarsBefore_succ (s : State) (n : Nat) :
    sha1VarsBefore s (n + 1) = sha1Round (sha1Schedule (s.block 64)) (sha1VarsBefore s n) n := by
  rw [sha1VarsBefore, sha1Rounds, List.range_succ, List.foldl_append]
  rfl

theorem sha1Result_compressSha1 (s : State) : Sha1Result s s.compressSha1 := by
  refine ⟨fun j => (sha1Schedule (s.block 64)).getD j 0, fun n => (sha1VarsBefore s n).words, fun j hj => ?_,
    fun i hlow hhigh => sha1Schedule_getD_of_le _ hlow hhigh, ?_, fun i hi => ?_, fun j => ?_⟩
  · exact (congrArg BitVec.toNat (sha1Schedule_getD_of_lt _ hj)).trans (toNat_blockWords_beWord (by decide) s hj)
  · refine Vector.ext fun j hj => ?_
    interval_cases j <;> rfl
  · exact (congrArg Sha1Vars.words (sha1VarsBefore_succ s i)).trans (words_sha1Round _ _ hi)
  · fin_cases j <;> rfl

/-- Settles O33: COMPRESS.SHA1 is the block command whose effect is the schedule, the 80 rounds and the feed-forward. -/
theorem compressSha1 : Obligations.CompressSha1 :=
  blockRule_of_variant rfl rfl sha1Result_compressSha1

end Sys2Proof.Machine
end

section
/-! PROOFS. The four COMPRESS commands of SHA-2, one proof at both word widths (O34), and what SHA-224 and SHA-384 share
with SHA-256 and SHA-512 (O44). -/

namespace Sys2Proof.Machine

open Sys2Proof.Claims

section
variable {w : Nat} (P : Sha2Params w)

/-! The schedule of SHA-2 (R175). -/

theorem sha2Schedule_length (hk : 16 ≤ P.k.length) (B : List Byte) : (sha2Schedule P B).length = P.k.length := by
  rw [sha2Schedule, extend_length (fun _ => rfl) (fun _ _ => rfl), blockWords_length, Nat.add_sub_cancel' hk]

theorem sha2Schedule_getD_of_lt (B : List Byte) {j : Nat} (hj : j < 16) :
    (sha2Schedule P B).getD j 0 = (blockWords (beWord w) B).getD j 0 :=
  extend_getD_of_lt (fun _ => rfl) (fun _ _ => rfl) _ (by rwa [blockWords_length]) 0

theorem sha2NextWord_take {ws : List (BitVec w)} {i : Nat} (hlow : 16 ≤ i) (hhigh : i ≤ ws.length) :
    sha2NextWord P (ws.take i) =
      ws.getD (i - 16) 0 + rotRotShr P.smallSigma0 (ws.getD (i - 15) 0) + ws.getD (i - 7) 0 +
        rotRotShr P.smallSigma1 (ws.getD (i - 2) 0) := by
  have hback {k : Nat} (hk : 0 < k) : (ws.take i).getD (i - k) 0 = ws.getD (i - k) 0 := take_getD ws (by omega) 0
  rw [sha2NextWord, List.length_take, Nat.min_eq_left hhigh, hback (by decide), hback (by decide), hback (by decide),
    hback (by decide)]

theorem sha2Schedule_getD_of_le (B : List Byte) {i : Nat} (hlow : 16 ≤ i) (hhigh : i < P.k.length) :
    (sha2Schedule P B).getD i 0 =
      (sha2Schedule P B).getD (i - 16) 0 + rotRotShr P.smallSigma0 ((sha2Schedule P B).getD (i - 15) 0) +
        (sha2Schedule P B).getD (i - 7) 0 + rotRotShr P.smallSigma1 ((sha2Schedule P B).getD (i - 2) 0) := by
  have hlen := sha2Schedule_length P (hlow.trans hhigh.le) B
  rw [← sha2NextWord_take P hlow (hlen ▸ hhigh.le)]
  exact extend_getD_of_le (fun _ => rfl) (fun _ _ => rfl) (by rwa [blockWords_length])
    (by rw [blockWords_length]; omega) 0

/-! The rounds of SHA-2 (R176). -/

/-- The working variables a to h as a vector. -/
def Sha2Vars.words (v : Sha2Vars w) : Vector (BitVec w) 8 := #v[v.a, v.b, v.c, v.d, v.e, v.f, v.g, v.h]

/-- The working variables before round `n` on the chaining value `H` and the block `B` (R176). -/
def sha2VarsBefore (H : Vector (BitVec w) 8) (B : List Byte) (n : Nat) : Sha2Vars w :=
  sha2Rounds P (sha2Schedule P B) ⟨H[0], H[1], H[2], H[3], H[4], H[5], H[6], H[7]⟩ n

theorem sha2VarsBefore_succ (H : Vector (BitVec w) 8) (B : List Byte) (n : Nat) :
    sha2VarsBefore P H B (n + 1) = sha2Round P (sha2Schedule P B) (sha2VarsBefore P H B n) n := by
  rw [sha2VarsBefore, sha2Rounds, List.range_succ, List.foldl_append]
  rfl

/-- The compression of block BIDX at word width `w` has the result of R176. -/
theorem sha2Result_sha2Compress (hw : 8 ∣ w) (s : State) (H : Vector (BitVec w) 8) :
    Sha2Result P.k.length P.k (rotRotRot P.bigSigma0) (rotRotRot P.bigSigma1) (rotRotShr P.smallSigma0)
      (rotRotShr P.smallSigma1) (blockByte s (16 * (w / 8))) H (sha2Compress P H (s.block (16 * (w / 8)))) := by
  refine ⟨fun j => (sha2Schedule P (s.block (16 * (w / 8)))).getD j 0,
    fun n => (sha2VarsBefore P H (s.block (16 * (w / 8))) n).words, fun j hj => ?_,
    fun i hlow hhigh => sha2Schedule_getD_of_le P _ hlow hhigh, ?_, fun i hi => ⟨_, _, rfl, rfl, ?_⟩, fun j => ?_⟩
  · exact (congrArg BitVec.toNat (sha2Schedule_getD_of_lt P _ hj)).trans (toNat_blockWords_beWord hw s hj)
  · refine Vector.ext fun j hj => ?_
    interval_cases j <;> rfl
  · exact congrArg Sha2Vars.words (sha2VarsBefore_succ P H _ i)
  · fin_cases j <;> rfl

end

/-- Settles O34: the effect of each command is the compression at its width on its state file. -/
theorem compressSha2 : Obligations.CompressSha2 := by
  have h32 (s : State) : Sha2Result32 s s.compressSha256 := sha2Result_sha2Compress sha2At32 (by decide) s s.s32h
  have h64 (s : State) : Sha2Result64 s s.compressSha512 := sha2Result_sha2Compress sha2At64 (by decide) s s.s64h
  exact ⟨blockRule_of_variant rfl rfl h32, blockRule_of_variant rfl rfl h32, blockRule_of_variant rfl rfl h64,
    blockRule_of_variant rfl rfl h64⟩

/-! Truncation (R194). -/

/-- Two DIGESTs of the same bytes: the shorter one writes the first bytes of the longer one. -/
theorem digestRule_prefix {word word' : Word32} {i j : Instr} {L L' : Nat} {byteAt : State → Nat → Byte}
    (hi : DigestRule word i L byteAt) (hj : DigestRule word' j L' byteAt) (hle : L ≤ L') (s : State) :
    ∃ t u, exec i s = .next t ∧ exec j s = .next u ∧ t.dlen.toNat = L ∧ u.dlen.toNat = L' ∧
      ∀ a, a < L → t.peek .dout a = u.peek .dout a := by
  obtain ⟨t, ht, htlen, htbyte, -⟩ := hi.2 s
  obtain ⟨u, hu, hulen, hubyte, -⟩ := hj.2 s
  exact ⟨t, u, ht, hu, htlen, hulen, fun a ha => (htbyte a ha).trans (hubyte a (ha.trans_le hle)).symm⟩

/-- Settles O44: the paired PADs and COMPRESSes are one function, and the paired DIGESTs serialise the same words. -/
theorem truncationIsAtTheEndOnly : Obligations.TruncationIsAtTheEndOnly := by
  intro s
  obtain ⟨-, -, h224, h256, h384, h512⟩ := digestCommands
  obtain ⟨t, u, ht, hu, htlen, hulen, h32⟩ := digestRule_prefix h224 h256 (by decide) s
  obtain ⟨t', u', ht', hu', htlen', hulen', h64⟩ := digestRule_prefix h384 h512 (by decide) s
  exact ⟨rfl, rfl, rfl, rfl,
    ⟨t, u, ht, hu, BitVec.eq_of_toNat_eq htlen, BitVec.eq_of_toNat_eq hulen, h32⟩,
    t', u', ht', hu', BitVec.eq_of_toNat_eq htlen', BitVec.eq_of_toNat_eq hulen', h64⟩

end Sys2Proof.Machine
end

section
/-! PROOFS. The round constants of SHA-2 are the cube roots of R173 and R174 (O35). The primes are found by trial
division; K512 is compared with their cube roots in integers, and K256 follows as its high halves. -/

namespace Sys2Proof.Machine

/-- The i-th number with a property is entry i of the list of those below a bound. -/
theorem nth_eq_getD_filter_range (p : Nat → Prop) [DecidablePred p] {n i : Nat}
    (hi : i < ((List.range n).filter p).length) : Nat.nth p i = ((List.range n).filter p).getD i 0 := by
  induction n with
  | zero => simp at hi
  | succ n ih =>
    by_cases hn : p n
    · have hstep : (List.range (n + 1)).filter p = (List.range n).filter p ++ [n] := by simp [List.range_succ, hn]
      have hcount : Nat.nth p ((List.range n).filter p).length = n := by
        rw [← List.countP_eq_length_filter]
        exact Nat.nth_count hn
      rw [hstep] at hi ⊢
      obtain hlt | rfl : i < ((List.range n).filter p).length ∨ i = ((List.range n).filter p).length := by
        rwa [List.length_append, List.length_singleton, Nat.lt_succ_iff_lt_or_eq] at hi
      · rw [List.getD_append _ _ _ _ hlt, ih hlt]
      · simp [hcount]
    · have hstep : (List.range (n + 1)).filter p = (List.range n).filter p := by simp [List.range_succ, hn]
      rw [hstep] at hi ⊢
      exact ih hi

/-- Trial division by the numbers below `b` decides primality below `b ^ 2`. -/
theorem prime_iff_not_dvd {b n : Nat} (h : n < b ^ 2) :
    n.Prime ↔ 2 ≤ n ∧ ∀ m < b, 2 ≤ m → m < n → ¬m ∣ n := by
  refine ⟨fun hp => ⟨hp.two_le, fun m _ hm hmn => (Nat.prime_def_lt'.1 hp).2 m hm hmn⟩, fun ⟨h2, hdvd⟩ => ?_⟩
  refine Nat.prime_def_le_sqrt.2 ⟨h2, fun m hm hsqrt => hdvd m ?_ hm ?_⟩
  · exact hsqrt.trans_lt (Nat.sqrt_lt'.2 h)
  · exact hsqrt.trans_lt (Nat.sqrt_lt_self h2)

/-- The primes below 410, the first 80. -/
def firstPrimes : List Nat :=
  [2, 3, 5, 7, 11, 13, 17, 19, 23, 29, 31, 37, 41, 43, 47, 53, 59, 61, 67, 71,
   73, 79, 83, 89, 97, 101, 103, 107, 109, 113, 127, 131, 137, 139, 149, 151, 157, 163, 167, 173,
   179, 181, 191, 193, 197, 199, 211, 223, 227, 229, 233, 239, 241, 251, 257, 263, 269, 271, 277, 281,
   283, 293, 307, 311, 313, 317, 331, 337, 347, 349, 353, 359, 367, 373, 379, 383, 389, 397, 401, 409]

theorem filter_prime_range : (List.range 410).filter Nat.Prime = firstPrimes := by
  have htrial : (List.range 410).filter (fun n => 2 ≤ n ∧ ∀ m < 21, 2 ≤ m → m < n → ¬m ∣ n) = firstPrimes := by
    decide
  rw [← htrial]
  refine List.filter_congr fun n hn => decide_eq_decide.2 (prime_iff_not_dvd ?_)
  have hn := List.mem_range.1 hn
  omega

theorem nth_prime_eq {i : Nat} (hi : i < 80) : Nat.nth Nat.Prime i = firstPrimes.getD i 0 := by
  rw [← filter_prime_range]
  exact nth_eq_getD_filter_range _ (by rw [filter_prime_range]; exact hi)

/-- `f` is the first `n` bits of the fractional part of the cube root of `p`. -/
def CubeRootBits (n p f : Nat) : Prop :=
  ∃ a, (a * 2 ^ n + f) ^ 3 ≤ p * 2 ^ (3 * n) ∧ p * 2 ^ (3 * n) < (a * 2 ^ n + f + 1) ^ 3

/-- Cutting off the last `m` bits. -/
theorem CubeRootBits.high {n m p f : Nat} (h : CubeRootBits (n + m) p f) : CubeRootBits n p (f / 2 ^ m) := by
  obtain ⟨a, hlow, hhigh⟩ := h
  have hpow : p * 2 ^ (3 * (n + m)) = p * 2 ^ (3 * n) * (2 ^ m) ^ 3 := by ring
  have hpos : 0 < (2 ^ m) ^ 3 := by positivity
  have hsplit : a * 2 ^ (n + m) + f = (a * 2 ^ n + f / 2 ^ m) * 2 ^ m + f % 2 ^ m := by
    rw [Nat.add_mul, Nat.add_assoc, Nat.div_add_mod', pow_add, Nat.mul_assoc]
  have hrest : f % 2 ^ m < 2 ^ m := Nat.mod_lt _ (by positivity)
  rw [hsplit, hpow] at hlow hhigh
  refine ⟨a, Nat.le_of_mul_le_mul_right (le_trans ?_ hlow) hpos, Nat.lt_of_mul_lt_mul_right (hhigh.trans_le ?_)⟩
  all_goals
    rw [← mul_pow]
    gcongr
  · omega
  · linarith

theorem k512_cubeRootBits : ∀ i < 80, CubeRootBits 64 (firstPrimes.getD i 0) (k512.getD i 0).toNat := by
  have hbounded : ∀ i < 80, ∃ a < 8, (a * 2 ^ 64 + (k512.getD i 0).toNat) ^ 3 ≤ firstPrimes.getD i 0 * 2 ^ (3 * 64) ∧
      firstPrimes.getD i 0 * 2 ^ (3 * 64) < (a * 2 ^ 64 + (k512.getD i 0).toNat + 1) ^ 3 := by
    decide
  intro i hi
  obtain ⟨a, -, ha⟩ := hbounded i hi
  exact ⟨a, ha⟩

/-- K256 is the high halves of K512 (R174). -/
theorem toNat_k512_div {i : Nat} (hi : i < 64) : (k512.getD i 0).toNat / 2 ^ 32 = (k256.getD i 0).toNat := by
  have hhigh : k256.getD i 0 = (k512.getD i 0).extractLsb' 32 32 := by
    rw [← take_getD k512 hi]
    exact List.getD_map (k512.take 64) (0 : Word64) fun k => k.extractLsb' 32 32
  have hlt : (k512.getD i 0).toNat < 2 ^ 64 := (k512.getD i 0).isLt
  rw [hhigh, BitVec.extractLsb'_toNat, Nat.shiftRight_eq_div_pow, Nat.mod_eq_of_lt (by omega)]

/-- Settles O35: K512 by comparison with the cube roots, K256 as its high halves. -/
theorem sha2ConstantsAreCubeRoots : Obligations.Sha2ConstantsAreCubeRoots := by
  refine ⟨⟨rfl, fun i hi => ?_⟩, ⟨rfl, fun i hi => ?_⟩, fun i hi => toNat_k512_div hi⟩
  · have hi80 : i < 80 := by omega
    rw [nth_prime_eq hi80, ← toNat_k512_div hi]
    exact CubeRootBits.high (n := 32) (m := 32) (k512_cubeRootBits i hi80)
  · rw [nth_prime_eq hi]
    exact k512_cubeRootBits i hi

end Sys2Proof.Machine
end

section
/-! PROOFS. The five steps of a Keccak round lane by lane (O37), the tables of ρ and ι (O38, O39), and Keccak-f as its
24 rounds (O40, O42). Lanes are compared at all indices, which count modulo 5 (R210). -/

namespace Sys2Proof.Machine

open Sys2Proof.Claims

/-! Lanes. -/

theorem lane_congr (A : Lanes) {x x' y y' : Nat} (hx : x % 5 = x' % 5) (hy : y % 5 = y' % 5) :
    lane A x y = lane A x' y' := by
  simp only [lane, hx, hy]

theorem lane_ofLanes (f : Nat → Nat → Word64) (x y : Nat) : lane (ofLanes f) x y = f (x % 5) (y % 5) := by
  have hx : (x % 5 + 5 * (y % 5)) % 5 = x % 5 := by omega
  have hy : (x % 5 + 5 * (y % 5)) / 5 = y % 5 := by omega
  simp [lane, ofLanes, hx, hy]

theorem lanes_ext {A B : Lanes} (h : ∀ x y, lane A x y = lane B x y) : A = B := by
  refine Vector.ext fun i hi => ?_
  have hplace : i % 5 % 5 + 5 * (i / 5 % 5) = i := by omega
  have hlane := h (i % 5) (i / 5)
  simp only [lane, hplace] at hlane
  exact hlane

theorem columnParity_congr (A : Lanes) {x x' : Nat} (hx : x % 5 = x' % 5) : columnParity A x = columnParity A x' := by
  simp only [columnParity, lane_congr A hx rfl]

/-! The steps. -/

/-- What θ adds to every lane of a column (R213). -/
def thetaDelta (C : Nat → Word64) (x : Nat) : Word64 := C (x + 4) ^^^ rotl (C (x + 1)) 1

theorem lane_theta (A : Lanes) (x y : Nat) :
    lane (theta A) x y = lane A x y ^^^ thetaDelta (columnParity A) x := by
  have hlane : lane A (x % 5) (y % 5) = lane A x y := lane_congr A (Nat.mod_mod x 5) (Nat.mod_mod y 5)
  have hcolumn (k : Nat) : columnParity A ((x + k) % 5) = columnParity A (x + k) :=
    columnParity_congr A (Nat.mod_mod _ 5)
  simp [theta, lane_ofLanes, thetaDelta, hlane, Fin.val_add, hcolumn]

theorem lane_rho (A : Lanes) (x y : Nat) :
    lane (rho A) x y = rotl (lane A x y) (rhoOffset[x % 5 + 5 * (y % 5)]'(by omega)) := by
  simp [lane, rho]

theorem lane_pi (A : Lanes) (x y : Nat) : lane (pi A) y (2 * x + 3 * y) = lane A x y := by
  rw [pi, lane_ofLanes]
  exact lane_congr A (by omega) (by omega)

theorem lane_chi (B : Lanes) (x y : Nat) :
    lane (chi B) x y = lane B x y ^^^ (~~~lane B (x + 1) y &&& lane B (x + 2) y) := by
  have hlane (k : Nat) : lane B (x % 5 + k) (y % 5) = lane B (x + k) y := lane_congr B (by omega) (by omega)
  rw [chi, lane_ofLanes, hlane 1, hlane 2]
  exact congrArg (· ^^^ _) (hlane 0)

theorem lane_iota (rc : Word64) (A : Lanes) (x y : Nat) :
    lane (iota rc A) x y = if x % 5 = 0 ∧ y % 5 = 0 then lane A 0 0 ^^^ rc else lane A x y := by
  have hplace : 0 = x % 5 + 5 * (y % 5) ↔ x % 5 = 0 ∧ y % 5 = 0 := by omega
  simp only [lane, iota, Vector.getElem_set, hplace]

/-- The table of R211 is the vector of offsets in register order. -/
theorem rhoOffset_eq_table : ∀ x y : Fin 5, rhoOffset[x.val % 5 + 5 * (y.val % 5)] =
    ([[0, 36, 3, 41, 18], [1, 44, 10, 45, 2], [62, 6, 43, 15, 61], [28, 55, 25, 21, 56],
      [27, 20, 39, 8, 14]].getD x []).getD y 0 := by
  decide

/-- Settles O37: each step by its lane rule. -/
theorem keccakSteps : Obligations.KeccakSteps := by
  intro A rc x y
  refine ⟨⟨columnParity A, thetaDelta (columnParity A), fun _ => rfl, fun _ => rfl, lane_theta A x y⟩, ?_, ?_,
    lane_chi A x y, ?_⟩
  · rw [lane_rho, rhoOffset_eq_table]
  · rw [← lane_pi A x y]
    exact lane_congr _ rfl (Nat.mod_mod _ 5)
  · have hzero (z : Fin 5) : z.val % 5 = 0 ↔ z = 0 := by
      rw [Nat.mod_eq_of_lt z.isLt, Fin.val_eq_zero_iff]
    simp only [lane_iota, hzero]

/-! The tables. -/

/-- Settles O38: the walk and the offsets compared at each of its 24 steps. -/
theorem rhoOffsetsFollowTheWalk : Obligations.RhoOffsetsFollowTheWalk := by
  refine ⟨rfl, ?_⟩
  decide

/-- Settles O39: the constants and the LFSR compared bit by bit. -/
theorem roundConstantsFollowTheLfsr : Obligations.RoundConstantsFollowTheLfsr := by
  refine ⟨rfl, ?_⟩
  decide

/-! The permutation. -/

/-- The state before round `n` (R218). -/
def keccakBefore (A : Lanes) (n : Nat) : Lanes := (roundConst.take n).foldl keccakRound A

theorem keccakBefore_succ (A : Lanes) {n : Nat} (hn : n < roundConst.length) :
    keccakBefore A (n + 1) = keccakRound (keccakBefore A n) (roundConst.getD n 0) := by
  rw [keccakBefore, List.take_add_one, List.getElem?_eq_getElem hn, List.foldl_append, List.getD_eq_getElem _ _ hn]
  rfl

/-- Settles O40: the state before round i for every i up to 24. -/
theorem keccakIsTwentyFourRounds : Obligations.KeccakIsTwentyFourRounds := fun A =>
  ⟨keccakBefore A, rfl, rfl, fun _ hi => keccakBefore_succ A hi⟩

/-- Settles O42: the command is the permutation of KA. -/
theorem keccakfCommand : Obligations.KeccakfCommand := ⟨rfl, fun _ => rfl⟩

end Sys2Proof.Machine
end

section
/-! PROOFS. Keccak-f is a bijection (O41): each step of a round can be undone, and there are finitely many states. θ is
undone on the column parities, where it is a polynomial in the shift by a column and the rotation by a place: its 64th
power has no rotation left, and its 192nd power is 1. -/

namespace Sys2Proof.Machine

open Sys2Proof.Claims

/-! Rotation of a sum, and of a rotation. -/

theorem rotl_xor {w : Nat} (hw : 0 < w) (x y : BitVec w) (n : Nat) : rotl (x ^^^ y) n = rotl x n ^^^ rotl y n := by
  refine BitVec.eq_of_getLsbD_eq fun i hi => ?_
  simp only [BitVec.getLsbD_xor, getLsbD_rotl _ _ hw hi]

theorem rotl_rotl {w : Nat} (hw : 0 < w) (x : BitVec w) (m n : Nat) : rotl (rotl x m) n = rotl x (m + n) := by
  refine BitVec.eq_of_getLsbD_eq fun i hi => ?_
  have hm : m % w < w := Nat.mod_lt m hw
  have hn : n % w < w := Nat.mod_lt n hw
  have hplace : (i + (w - n % w) + (w - m % w)) % w = (i + (w - (m % w + n % w) % w)) % w := by
    by_cases h : m % w + n % w < w
    · have hwrap : i + (w - n % w) + (w - m % w) = i + (w - (m % w + n % w)) + w := by omega
      rw [Nat.mod_eq_of_lt h, hwrap, Nat.add_mod_right]
    · have hle : w ≤ m % w + n % w := by omega
      have hlt : m % w + n % w - w < w := by omega
      rw [Nat.mod_eq_sub_mod hle, Nat.mod_eq_of_lt hlt]
      congr 1
      omega
  rw [getLsbD_rotl _ _ hw hi, getLsbD_rotl _ _ hw (Nat.mod_lt _ hw), getLsbD_rotl _ _ hw hi, Nat.mod_add_mod, hplace,
    ← Nat.add_mod]

/-! θ on the column parities. -/

/-- Five columns, to each of which are added the `n`-th before it, that is the `4 * n`-th after it, and the `n`-th after
it rotated by `n`. -/
def mixColumns (n : Nat) (C : Nat → Word64) (x : Nat) : Word64 := C x ^^^ C (x + 4 * n) ^^^ rotl (C (x + n)) n

/-- θ adds the same to the five lanes of a column, which adds it once to their parity. -/
theorem columnParity_theta (A : Lanes) : columnParity (theta A) = mixColumns 1 (columnParity A) := by
  funext x
  have hdelta : mixColumns 1 (columnParity A) x = columnParity A x ^^^ thetaDelta (columnParity A) x :=
    BitVec.xor_assoc _ _ _
  rw [hdelta]
  generalize hd : thetaDelta (columnParity A) x = d
  simp only [columnParity, lane_theta, hd]
  ac_nf
  simp

theorem periodic_columnParity (A : Lanes) : Function.Periodic (columnParity A) 5 := fun x =>
  columnParity_congr A (Nat.add_mod_right x 5)

/-- Columns stand 5 apart from themselves. -/
theorem column_eq {C : Nat → Word64} (hC : Function.Periodic C 5) {x x' : Nat} (h : x % 5 = x' % 5) : C x = C x' := by
  rw [← hC.map_mod_nat x, h, hC.map_mod_nat]

/-- Two mixings by `n` are one by `2 * n`: what is added twice cancels. -/
theorem mixColumns_mixColumns {C : Nat → Word64} (hC : Function.Periodic C 5) (n : Nat) :
    mixColumns n (mixColumns n C) = mixColumns (2 * n) C := by
  funext x
  have hthere : C (x + 4 * n + n) = C x := column_eq hC (by omega)
  have hback : C (x + n + 4 * n) = C x := column_eq hC (by omega)
  have hbefore : x + 4 * n + 4 * n = x + 4 * (2 * n) := by omega
  have hafter : x + n + n = x + 2 * n := by omega
  simp only [mixColumns, rotl_xor (w := 64) (by decide), rotl_rotl (w := 64) (by decide), hthere, hback, hbefore,
    hafter, ← Nat.two_mul]
  ac_nf
  simp

theorem periodic_mixColumns {C : Nat → Word64} (hC : Function.Periodic C 5) (n : Nat) :
    Function.Periodic (mixColumns n C) 5 := fun x => by
  simp only [mixColumns, Nat.add_right_comm x 5, hC _]

/-- A mixing by a multiple of 64 rotates nothing, and its distance counts modulo 5. -/
theorem mixColumns_eq {C : Nat → Word64} (hC : Function.Periodic C 5) {n r : Nat} (h64 : n % 64 = 0)
    (h5 : n % 5 = r % 5) (x : Nat) : mixColumns n C x = C x ^^^ C (x + 4 * r) ^^^ C (x + r) := by
  have hbefore : C (x + 4 * n) = C (x + 4 * r) := column_eq hC (by omega)
  have hafter : C (x + n) = C (x + r) := column_eq hC (by omega)
  rw [mixColumns, hbefore, hafter, rotl_of_mod_eq_zero _ _ (by decide) h64]

/-- The mixings by 64 and by 128 undo each other. -/
theorem mixColumns_64_128 {C : Nat → Word64} (hC : Function.Periodic C 5) : mixColumns 64 (mixColumns 128 C) = C := by
  funext x
  have h64 := mixColumns_eq (periodic_mixColumns hC 128) (n := 64) (r := 4) rfl rfl x
  have h128 := mixColumns_eq hC (n := 128) (r := 3) rfl rfl
  have h28 : C (x + 4 * 4 + 4 * 3) = C (x + 3) := column_eq hC (by omega)
  have h19 : C (x + 4 * 4 + 3) = C (x + 4) := column_eq hC (by omega)
  have h16 : C (x + 4 + 4 * 3) = C (x + 4 * 4) := column_eq hC (by omega)
  have h7 : C (x + 4 + 3) = C (x + 4 * 3) := column_eq hC (by omega)
  rw [h64, h128, h128, h128, h28, h19, h16, h7]
  ac_nf
  simp

theorem mixColumns_two_pow {C C' : Nat → Word64} (hC : Function.Periodic C 5) (hC' : Function.Periodic C' 5)
    (h : mixColumns 1 C = mixColumns 1 C') (k : Nat) : mixColumns (2 ^ k) C = mixColumns (2 ^ k) C' := by
  induction k with
  | zero => exact h
  | succ k ih => rw [Nat.pow_succ', ← mixColumns_mixColumns hC, ih, mixColumns_mixColumns hC']

theorem mixColumns_injective {C C' : Nat → Word64} (hC : Function.Periodic C 5) (hC' : Function.Periodic C' 5)
    (h : mixColumns 1 C = mixColumns 1 C') : C = C' := by
  rw [← mixColumns_64_128 hC, ← mixColumns_64_128 hC']
  exact congrArg _ (mixColumns_two_pow hC hC' h 7)

/-! The steps are injective. -/

theorem theta_injective : Function.Injective theta := by
  intro A B h
  have hparity : columnParity A = columnParity B :=
    mixColumns_injective (periodic_columnParity A) (periodic_columnParity B) (by
      rw [← columnParity_theta, h, columnParity_theta])
  refine lanes_ext fun x y => ?_
  have hlane := congrArg (lane · x y) h
  simp only [lane_theta, hparity] at hlane
  exact (BitVec.xor_left_inj _).1 hlane

theorem rho_injective : Function.Injective rho := by
  intro A B h
  refine lanes_ext fun x y => ?_
  have hlane := congrArg (lane · x y) h
  simp only [lane_rho] at hlane
  rw [← rotr_rotl (lane A x y) _ (by decide), hlane, rotr_rotl _ _ (by decide)]

theorem pi_injective : Function.Injective pi := by
  intro A B h
  refine lanes_ext fun x y => ?_
  rw [← lane_pi, h, lane_pi]

/-- A lane of a row before χ, from the five lanes of the row after it. -/
theorem chi_row_inverse {w : Nat} (b₀ b₁ b₂ b₃ b₄ : BitVec w) :
    (b₀ ^^^ (~~~b₁ &&& b₂)) ^^^ (~~~(b₁ ^^^ (~~~b₂ &&& b₃)) &&& ((b₂ ^^^ (~~~b₃ &&& b₄)) ^^^
      (~~~(b₃ ^^^ (~~~b₄ &&& b₀)) &&& (b₄ ^^^ (~~~b₀ &&& b₁))))) = b₀ := by
  have hbits : ∀ p q r s t : Bool, ((p ^^ (!q && r)) ^^ (!(q ^^ (!r && s)) && ((r ^^ (!s && t)) ^^
      (!(s ^^ (!t && p)) && (t ^^ (!p && q)))))) = p := by
    decide
  refine BitVec.eq_of_getLsbD_eq fun i hi => ?_
  simp only [BitVec.getLsbD_xor, BitVec.getLsbD_and, BitVec.getLsbD_not, decide_eq_true hi, Bool.true_and]
  exact hbits _ _ _ _ _

/-- χ undone: the formula of `chi_row_inverse` on the lanes after it. -/
theorem lane_eq_of_chi (B : Lanes) (x y : Nat) :
    lane B x y = lane (chi B) x y ^^^ (~~~lane (chi B) (x + 1) y &&& (lane (chi B) (x + 2) y ^^^
      (~~~lane (chi B) (x + 3) y &&& lane (chi B) (x + 4) y))) := by
  have hrow := chi_row_inverse (lane B x y) (lane B (x + 1) y) (lane B (x + 2) y) (lane B (x + 3) y) (lane B (x + 4) y)
  have h0 : lane B (x + 5) y = lane B x y := lane_congr B (by omega) rfl
  have h1 : lane B (x + 6) y = lane B (x + 1) y := lane_congr B (by omega) rfl
  simp only [lane_chi, Nat.add_assoc, Nat.reduceAdd, h0, h1]
  exact hrow.symm

theorem chi_injective : Function.Injective chi := by
  intro A B h
  refine lanes_ext fun x y => ?_
  rw [lane_eq_of_chi, h, ← lane_eq_of_chi]

theorem iota_injective (rc : Word64) : Function.Injective (iota rc) := by
  have hundo (A : Lanes) : iota rc (iota rc A) = A := by simp [iota]
  exact Function.LeftInverse.injective hundo

/-! The permutation. -/

theorem keccakRound_injective (rc : Word64) : Function.Injective (keccakRound · rc) :=
  (iota_injective rc).comp (chi_injective.comp (pi_injective.comp (rho_injective.comp theta_injective)))

theorem foldl_injective {α β : Type} {f : α → β → α} (hf : ∀ b, Function.Injective (f · b)) (l : List β) :
    Function.Injective (l.foldl f) := by
  induction l with
  | nil => exact Function.injective_id
  | cons b l ih => exact ih.comp (hf b)

theorem finite_lanes : Finite Lanes :=
  Finite.of_injective (fun (A : Lanes) (i : Fin 25) => A[i]) fun _ _ h =>
    Vector.ext fun i hi => congrFun h ⟨i, hi⟩

/-- Settles O41: 24 injective rounds on a finite set. -/
theorem keccakIsABijection : Obligations.KeccakIsABijection :=
  have := finite_lanes
  (foldl_injective keccakRound_injective roundConst).bijective_of_finite

end Sys2Proof.Machine
end

section
/-! PROOFS. The commands of the sponge variants: INIT (O27), PAD (O29), ABSORB (O36) and SQUEEZE (O45, O46). -/

namespace Sys2Proof.Machine

open Sys2Proof.Claims

/-- The state file of a sponge variant is KA (R260). -/
theorem stateFile_iff_of_sponge {v : Variant} (hv : v ∈ spongeVariants) (r : Reg) :
    stateFile v r ↔ ∃ j, r = .ka j := by
  cases v with
  | md5 | sha1 | sha224 | sha256 | sha384 | sha512 => exact absurd hv (by decide)
  | _ => exact Iff.rfl

/-! INIT. -/

theorem initOf_ka {v : Variant} (hv : v ∈ spongeVariants) (s : State) : (s.initOf v).ka = Vector.replicate 25 0 := by
  cases v with
  | md5 | sha1 | sha224 | sha256 | sha384 | sha512 => exact absurd hv (by decide)
  | _ => rfl

/-- Settles O27: INIT.v has its effect in every state. -/
theorem spongeInit : Obligations.SpongeInit := by
  refine ⟨rfl, rfl, rfl, rfl, rfl, rfl, ?_⟩
  have hinit : ∀ v ∈ spongeVariants, ∀ s : State, ∃ t, exec v.init s = .next t ∧ (∀ j : Fin 25, t.ka[j] = 0) ∧
      t.bidx = 0 ∧ Frame s t (fun r => r = .bidx ∨ ∃ j, r = .ka j) noByte := by
    refine fun v hv s => ⟨s.initOf v, exec_init v s, fun j => ?_, initOf_bidx v s, ?_⟩
    · simp [initOf_ka hv]
    · exact (frame_initOf v s).mono (fun r => Or.imp_right (stateFile_iff_of_sponge hv r).1) fun _ _ => id
  exact List.forall_mem_map (f := Variant.init) (l := spongeVariants).2 hinit

/-! PAD. -/

/-- Byte `a` of a padded message: the message, the suffix after it, zeros, and 0x80 set in the last byte (R221). -/
theorem spongePad_getElem? {r : Nat} (hr : 0 < r) (suffix : Byte) (m : List Byte) {a : Nat}
    (ha : a < padTo r 0 m.length) :
    (spongePad r suffix m)[a]? =
      some ((if a < m.length then m.getD a 0 else if a = m.length then suffix else 0) |||
        (if a + 1 = padTo r 0 m.length then 0x80 else 0)) := by
  have hfits : m.length < padTo r 0 m.length := Nat.lt_mul_div_succ _ hr
  have hpad : spongePad r suffix m = ((m ++ List.replicate (padTo r 0 m.length - m.length) 0).modify m.length
      (· ^^^ suffix)).modify (padTo r 0 m.length - 1) (· ||| 0x80) := rfl
  have hbody : (m ++ List.replicate (padTo r 0 m.length - m.length) 0)[a]? = some (m.getD a 0) := by
    by_cases hmsg : a < m.length
    · rw [List.getElem?_append_left hmsg, List.getD_eq_getElem _ _ hmsg, List.getElem?_eq_getElem hmsg]
    · rw [List.getElem?_append_right (by omega), List.getElem?_replicate_of_lt (by omega),
        List.getD_eq_default _ _ (by omega)]
  have hlast : padTo r 0 m.length - 1 = a ↔ a + 1 = padTo r 0 m.length := by omega
  have hsuffix : (if m.length = a then m.getD a 0 ^^^ suffix else m.getD a 0) =
      if a < m.length then m.getD a 0 else if a = m.length then suffix else 0 := by
    rcases lt_trichotomy a m.length with hmsg | rfl | hzero
    · rw [if_neg hmsg.ne', if_pos hmsg]
    · simp
    · rw [if_neg hzero.ne, if_neg hzero.not_gt, if_neg hzero.ne', List.getD_eq_default _ _ hzero.le]
  simp only [hpad, List.getElem?_modify, hbody, hlast, Option.map_eq_map, Option.map_some, hsuffix]
  by_cases hend : a + 1 = padTo r 0 m.length
  · rw [if_pos hend, if_pos hend]
  · rw [if_neg hend, if_neg hend]
    exact congrArg some BitVec.or_zero.symm

/-- A PAD whose padded message is `spongePad` obeys the rule of the sponge PADs (R221, R249). -/
theorem spongePadRule_of_variant {v : Variant} {word : Word32} {r : Nat} {suffix : Byte} (hcode : encode v.pad = word)
    (hr : 0 < r) (hlen : ∀ n, v.paddedLen n = padTo r 0 n) (hpad : ∀ m, padBytes v m = spongePad r suffix m) :
    SpongePadRule word v.pad r suffix := by
  refine ⟨hcode, fun s hlegal => ?_⟩
  rw [← hlen]
  refine ⟨fun h => ?_, fun h h' => ?_, fun h h' => ⟨s.padOf v, ?_, ?_, fun a ha => ?_, frame_padOf v s⟩⟩
  · rw [exec_pad, padCommand, if_pos h, raise]
  · rw [exec_pad, padCommand, if_neg (by omega), if_pos h', raise]
  · rw [exec_pad, padCommand_next _ h h']
  · rw [padOf_eq, storePadded_plen, BitVec.toNat_ofNat]
    exact Nat.mod_eq_of_lt (by omega)
  · have hbyte := peek_padOf v s ha
    rw [hpad, spongePad_getElem? hr _ _ (by rwa [message_length, ← hlen]), message_length, ← hlen] at hbyte
    rw [← Option.some.inj hbyte]
    by_cases hmsg : a < s.mlen.toNat
    · rw [if_pos hmsg, if_pos hmsg, List.getD_eq_getElem?_getD, message_getElem? hmsg, Option.getD_some]
    · rw [if_neg hmsg, if_neg hmsg]

/-- Settles O29: the padded message of each variant is `spongePad` at its rate and suffix. -/
theorem spongePadCommands : Obligations.SpongePad :=
  ⟨spongePadRule_of_variant (v := .sha3_224) rfl (by decide) (fun _ => rfl) fun _ => rfl,
    spongePadRule_of_variant (v := .sha3_256) rfl (by decide) (fun _ => rfl) fun _ => rfl,
    spongePadRule_of_variant (v := .sha3_384) rfl (by decide) (fun _ => rfl) fun _ => rfl,
    spongePadRule_of_variant (v := .sha3_512) rfl (by decide) (fun _ => rfl) fun _ => rfl,
    spongePadRule_of_variant (v := .shake128) rfl (by decide) (fun _ => rfl) fun _ => rfl,
    spongePadRule_of_variant (v := .shake256) rfl (by decide) (fun _ => rfl) fun _ => rfl⟩

/-! The 200 bytes of the state. -/

theorem leByte_xor {w : Nat} (x y : BitVec w) (k : Nat) : leByte (x ^^^ y) k = leByte x k ^^^ leByte y k := by
  rw [leByte, leByte, leByte, BitVec.toNat_xor, ← Nat.shiftRight_eq_div_pow, Nat.shiftRight_xor_distrib,
    BitVec.ofNat_xor, Nat.shiftRight_eq_div_pow, Nat.shiftRight_eq_div_pow]

theorem leByte_leWord {w : Nat} (hw : 8 ∣ w) {bs : List Byte} (hbs : bs.length = w / 8) {k : Nat} (hk : k < w / 8) :
    leByte (leWord w bs) k = bs.getD k 0 := by
  rw [← toLe_getD _ hk 0, toLe_leWord hw hbs]

/-- Byte `j` of the state (R31). -/
theorem stateBytes_getElem? (A : Lanes) {j : Nat} (hj : j < 200) : (stateBytes A)[j]? = some (sb A j) := by
  have hle (x : Word64) (k : Nat) (hk : k < 8) : (toLe x).getD k 0 = leByte x k := toLe_getD x hk 0
  have hbyte := flatMap_getElem?_byte toLe_length hle (l := A.toList) (a := j) (by simpa using hj)
  rw [stateBytes, hbyte, sb]
  simp

/-! ABSORB. -/

/-- The block meets the first `r` bytes of the state (R222). -/
theorem sb_xorBlock {r : Nat} (hr : 8 ∣ r) (A : Lanes) {B : List Byte} (hB : B.length = r) {k : Nat} (hk : k < 200) :
    sb (xorBlock r A B) k = if k < r then sb A k ^^^ B.getD k 0 else sb A k := by
  have hlane : k / 8 < 25 := by omega
  have hiff : k / 8 < r / 8 ↔ k < r := by omega
  have hsb (A : Lanes) : sb A k = leByte A[k / 8] (k % 8) := by rw [sb, Vector.getElem?_eq_getElem hlane]; rfl
  rw [hsb, hsb]
  simp only [xorBlock, Vector.getElem_ofFn, Fin.getElem_fin, hiff]
  by_cases h : k < r
  · have hlen : (slice B (8 * (k / 8)) 8).length = 8 := by rw [slice, List.length_take, List.length_drop]; omega
    have hbyte : (slice B (8 * (k / 8)) 8).getD (k % 8) 0 = B.getD k 0 := by
      rw [slice, take_getD _ (Nat.mod_lt k (by decide)), List.getD_eq_getElem?_getD, List.getElem?_drop,
        Nat.div_add_mod, ← List.getD_eq_getElem?_getD]
    rw [if_pos h, if_pos h, leByte_xor, leByte_leWord (by decide) hlen (Nat.mod_lt k (by decide)), hbyte]
  · rw [if_neg h, if_neg h]

theorem block_getD (s : State) {r k : Nat} (hk : k < r) : (s.block r).getD k 0 = blockByte s r k := by
  simp [State.block, State.readBytes, blockByte, hk]

theorem absorbResult_absorb {r : Nat} (hr : 8 ∣ r) (s : State) : AbsorbResult r s (s.absorb r) := by
  refine ⟨xorBlock r s.ka (s.block r), fun k hk => ?_, rfl⟩
  rw [sb_xorBlock hr _ (block_length s r) hk]
  by_cases h : k < r
  · rw [if_pos h, if_pos h, block_getD s h]
  · rw [if_neg h, if_neg h]

/-- Settles O36: the effect of each command is the absorption of block BIDX at its rate. -/
theorem absorbCommands : Obligations.AbsorbCommands :=
  ⟨blockRule_of_variant rfl rfl (absorbResult_absorb (r := 144) (by decide)),
    blockRule_of_variant rfl rfl (absorbResult_absorb (r := 136) (by decide)),
    blockRule_of_variant rfl rfl (absorbResult_absorb (r := 104) (by decide)),
    blockRule_of_variant rfl rfl (absorbResult_absorb (r := 72) (by decide)),
    blockRule_of_variant rfl rfl (absorbResult_absorb (r := 168) (by decide)),
    blockRule_of_variant rfl rfl (absorbResult_absorb (r := 136) (by decide))⟩

/-! SQUEEZE. -/

/-- The number of permutations before the last bytes of an output of `L` bytes are exposed (R223). -/
def permutationsOf (r L : Nat) : Nat := (L + r - 1) / r - 1

theorem permutationsOf_of_le {r L : Nat} (hr : 0 < r) (hL : L ≤ r) : permutationsOf r L = 0 := by
  have hlt : (L + r - 1) / r < 2 := Nat.div_lt_of_lt_mul (by omega)
  rw [permutationsOf]
  omega

theorem permutationsOf_of_lt {r L : Nat} (hr : 0 < r) (hL : r < L) :
    permutationsOf r L = permutationsOf r (L - r) + 1 := by
  have hwhole : L + r - 1 = (L - r + r - 1) + r := by omega
  have hpos : 0 < (L - r + r - 1) / r := Nat.div_pos (by omega) hr
  rw [permutationsOf, permutationsOf, hwhole, Nat.add_div_right _ hr]
  omega

/-- The loop stops after as many permutations as it takes (R223). -/
theorem squeezeLoop_snd {r : Nat} (hr : 0 < r) (n : Nat) (A : Lanes) {L : Nat} (hL : L ≤ n + r) :
    (squeezeLoop r n A L).2 = keccakF^[permutationsOf r L] A := by
  induction n generalizing A L with
  | zero => rw [permutationsOf_of_le hr (by omega)]; rfl
  | succ n ih =>
    rw [squeezeLoop]
    split_ifs with hlast
    · rw [permutationsOf_of_le hr hlast]
      rfl
    · rw [permutationsOf_of_lt hr (by omega), Function.iterate_succ_apply]
      exact ih _ (by omega)

/-- Byte `r * k + j` of the output is byte `j` of the state after `k` permutations (R223). -/
theorem squeezeLoop_fst {r : Nat} (h200 : r ≤ 200) (n : Nat) (A : Lanes) {L k j : Nat} (hL : L ≤ n + r) (hj : j < r)
    (hk : r * k + j < L) : (squeezeLoop r n A L).1[r * k + j]? = some (sb (keccakF^[k] A) j) := by
  have hfirst {L : Nat} (hL : L ≤ r) (A : Lanes) {k : Nat} (hk : r * k + j < L) :
      ((stateBytes A).take L)[r * k + j]? = some (sb (keccakF^[k] A) j) := by
    obtain rfl : k = 0 := by
      by_contra hk0
      have := Nat.le_mul_of_pos_right r (Nat.pos_of_ne_zero hk0)
      omega
    rw [List.getElem?_take_of_lt hk, Nat.mul_zero, Nat.zero_add, stateBytes_getElem? _ (by omega)]
    rfl
  induction n generalizing A L k with
  | zero =>
    rw [Nat.zero_add] at hL
    rw [squeezeLoop, Nat.min_eq_right hL]
    exact hfirst hL A hk
  | succ n ih =>
    rw [squeezeLoop]
    split_ifs with hlast
    · exact hfirst hlast A hk
    · have hlen : ((stateBytes A).take r).length = r := by rw [List.length_take, stateBytes_length]; omega
      cases k with
      | zero =>
        rw [List.getElem?_append_left (by omega)]
        exact hfirst le_rfl A (by omega)
      | succ k =>
        have hplace : r * (k + 1) + j = r + (r * k + j) := by rw [Nat.mul_succ]; omega
        rw [hplace, List.getElem?_append_right (by omega), hlen, Nat.add_sub_cancel_left, Function.iterate_succ_apply]
        exact ih _ (by omega) (by omega)

theorem digestBytes_of_sponge {v : Variant} (hv : v ∈ spongeVariants) (s : State) :
    digestBytes v s = (spongeSqueeze v.blockSize s.ka (s.outLen v)).1 := by
  cases v with
  | md5 | sha1 | sha224 | sha256 | sha384 | sha512 => exact absurd hv (by decide)
  | _ => rfl

theorem blockSize_le_of_sponge {v : Variant} (hv : v ∈ spongeVariants) : v.blockSize ≤ 200 := by
  cases v <;> decide

/-- SQUEEZE.v obeys the rule of the SQUEEZEs at its rate and output length (R223, R251). -/
theorem squeezeRule_of_variant {v : Variant} {word : Word32} (hcode : encode v.out = word) (hv : v ∈ spongeVariants) :
    SqueezeRule word v.out v.blockSize (State.outLen v) := by
  refine ⟨hcode, fun s hlegal => ?_⟩
  obtain ⟨_, _, _, _, hdout⟩ := hlegal
  have hexec : exec v.out s = squeezeCommand (s.outLen v) (State.outOf v) s := by rw [exec_out, if_pos hv]
  refine ⟨fun hcap => ?_, fun hcap => ⟨s.outOf v, ?_, ?_, fun k j hj hk => ?_, ?_, ?_⟩⟩
  · rw [hexec, squeezeCommand, if_pos hcap, raise]
  · rw [hexec, squeezeCommand_next _ hcap]
  · rw [outOf_dlen]
    exact Nat.mod_eq_of_lt (by omega)
  · have hpeek := peek_outOf v s hk
    rw [digestBytes_of_sponge hv, spongeSqueeze,
      squeezeLoop_fst (blockSize_le_of_sponge hv) _ _ (Nat.le_add_right _ _) hj hk] at hpeek
    exact (Option.some.inj hpeek).symm
  · rw [outOf_ka hv]
    exact squeezeLoop_snd v.blockSize_pos _ _ (Nat.le_add_right _ _)
  · exact (frame_outOf v s).mono (fun _ => Or.imp_right And.right) fun _ _ => id

/-- Settles O45: each SQUEEZE is its variant's output command. -/
theorem squeezeCommands : Obligations.SqueezeCommands :=
  ⟨squeezeRule_of_variant (v := .sha3_224) rfl (by decide), squeezeRule_of_variant (v := .sha3_256) rfl (by decide),
    squeezeRule_of_variant (v := .sha3_384) rfl (by decide), squeezeRule_of_variant (v := .sha3_512) rfl (by decide),
    squeezeRule_of_variant (v := .shake128) rfl (by decide), squeezeRule_of_variant (v := .shake256) rfl (by decide)⟩

/-- Byte `a` of an output is byte `a % r` of the state after `a / r` permutations, whatever the output's length. -/
theorem squeezeRule_first_bytes {word : Word32} {i : Instr} {r : Nat} {L : State → Nat} (h : SqueezeRule word i r L)
    (hr : 0 < r) {s s' : State} (hka : s.ka = s'.ka) (hle : L s ≤ L s') (hs : s.cfg.legal) (hs' : s'.cfg.legal)
    (hL : L s ≤ s.cfg.doutCap) (hL' : L s' ≤ s'.cfg.doutCap) :
    ∃ t t', exec i s = .next t ∧ exec i s' = .next t' ∧ ∀ a, a < L s → t.peek .dout a = t'.peek .dout a := by
  obtain ⟨t, ht, -, hbyte, -⟩ := (h.2 s hs).2 hL
  obtain ⟨t', ht', -, hbyte', -⟩ := (h.2 s' hs').2 hL'
  refine ⟨t, t', ht, ht', fun a ha => ?_⟩
  have hplace : r * (a / r) + a % r = a := Nat.div_add_mod a r
  have hpeek := hbyte (a / r) (a % r) (Nat.mod_lt a hr) (by rwa [hplace])
  have hpeek' := hbyte' (a / r) (a % r) (Nat.mod_lt a hr) (by rw [hplace]; exact ha.trans_le hle)
  rw [hplace] at hpeek hpeek'
  rw [hpeek, hpeek', hka]

/-- Settles O46: the rule of either SQUEEZE in both states. -/
theorem shakeOutputsArePrefixes : Obligations.ShakeOutputsArePrefixes := by
  intro i hi s s' hka hle hs hs' hL hL'
  simp only [List.mem_cons, List.not_mem_nil, or_false] at hi
  rcases hi with rfl | rfl
  · have hrule := squeezeRule_of_variant (v := .shake128) rfl (by decide)
    exact squeezeRule_first_bytes hrule (by decide) hka hle hs hs' hL hL'
  · have hrule := squeezeRule_of_variant (v := .shake256) rfl (by decide)
    exact squeezeRule_first_bytes hrule (by decide) hka hle hs hs' hL hL'

end Sys2Proof.Machine
end

section
/-! PROOFS. HEX inside and above the capacity of DOUT (O52, O53). -/

namespace Sys2Proof.Machine

open Sys2Proof.Claims

/-- Settles O52: HEX has its effect, whose text and frame are those of any state. -/
theorem hexCommand : Obligations.HexCommand := by
  refine ⟨rfl, fun s hlegal hdlen => ⟨s.hexOut, execHex_next hdlen, ?_, textOf_hexOut s, frame_hexOut s⟩⟩
  obtain ⟨_, _, _, _, hdout⟩ := hlegal
  rw [hexOut_xlen]
  exact Nat.mod_eq_of_lt (by omega)

/-- Settles O53: the test of HEX. -/
theorem hexStopsAboveCapacity : Obligations.HexStopsAboveCapacity := fun _ h => if_pos h

end Sys2Proof.Machine
end

section
/-! PROOFS. What stands at the end of HASH.v (O48), and the step sequence that leads there (O49). -/

namespace Sys2Proof.Machine

open Sys2Proof.Claims

/-! STATUS, PLEN and BIDX through the effects of a variant. -/

theorem initOf_status (v : Variant) (s : State) : (s.initOf v).status = s.status := by cases v <;> rfl

theorem padOf_status (v : Variant) (s : State) : (s.padOf v).status = s.status := by cases v <;> rfl

theorem blockOf_status (v : Variant) (s : State) : (s.blockOf v).status = s.status := by cases v <;> rfl

theorem outOf_status (v : Variant) (s : State) : (s.outOf v).status = s.status := by cases v <;> rfl

theorem hashOf_status (v : Variant) (s : State) : (s.hashOf v).status = s.status :=
  hashOf_keeps State.status (initOf_status v) (padOf_status v) (blockOf_status v) (outOf_status v) s

theorem blockOf_plen (v : Variant) (s : State) : (s.blockOf v).plen = s.plen := by cases v <;> rfl

theorem blockOf_cfg (v : Variant) (s : State) : (s.blockOf v).cfg = s.cfg := by cases v <;> rfl

theorem padOf_plen (v : Variant) (s : State) : (s.padOf v).plen = BitVec.ofNat 64 (v.paddedLen s.mlen.toNat) := by
  rw [padOf_eq, storePadded_plen]

theorem hashOf_bidx (v : Variant) (s : State) : (s.hashOf v).bidx = BitVec.ofNat 64 (s.blocksOf v) := by
  rw [hashOf_eq, outOf_bidx, hashBlocks, iterate_blockOf_bidx, padOf_bidx, initOf_bidx]
  exact BitVec.zero_add _

/-- HASH.v leaves in PBUF what PAD.v leaves there: INIT.v before it does not touch the message, and the block and output
commands after it do not touch PBUF. -/
theorem hashOf_peek_pbuf (v : Variant) (s : State) {a : Nat} (h : a < v.paddedLen s.mlen.toNat) :
    (s.hashOf v).peek .pbuf a = (s.padOf v).peek .pbuf a := by
  have hblocks : (hashBlocks v s).peek .pbuf a = ((s.initOf v).padOf v).peek .pbuf a :=
    iterate_blockOf (State.peek · .pbuf a) (fun u => blockOf_peek v u .pbuf a) _ _
  have hpad : ((s.initOf v).padOf v).peek .pbuf a = (s.padOf v).peek .pbuf a := by
    apply Option.some.inj
    rw [← peek_padOf v _ (by rwa [initOf_mlen]), initOf_message, peek_padOf v s h]
  rw [hashOf_eq, outOf_peek_pbuf, hblocks, hpad]

/-! HASH.v. -/

/-- The number of blocks in the words of the claims. -/
theorem paddedLength_div_blockBytes (v : Variant) (s : State) :
    paddedLength v s.mlen.toNat / blockBytes v = s.blocksOf v := by
  rw [paddedLength_eq, blockBytes_eq, State.blocksOf]

theorem exec_pad_of_admits {v : Variant} {s : State} (h : Admits v s) : exec v.pad s = .next (s.padOf v) := by
  obtain ⟨_, hm, hp, _⟩ := h
  rw [paddedLength_eq] at hp
  rw [exec_pad, padCommand_next _ hm hp]

/-- Settles O48: the tests of HASH.v in order; and the registers, PBUF and the frame of its effect. -/
theorem hashCommands : Obligations.HashCommands := by
  intro v s hlegal
  refine ⟨fun hm => ?_, fun hm hcap => ?_, fun hadmits => ⟨s.hashOf v, s.padOf v, exec_hash_of_admits hadmits,
    exec_pad_of_admits hadmits, ?_, ?_, ?_, fun a ha => ?_, ?_⟩⟩
  · rw [exec_hash, hashCommand, if_pos hm, raise]
  · rw [paddedLength_eq, outputLength_eq] at hcap
    rw [exec_hash, hashCommand, if_neg (Nat.not_lt.2 hm)]
    by_cases hp : s.cfg.pbufCap < v.paddedLen s.mlen.toNat
    · rw [if_pos hp, raise]
    · rw [if_neg hp, if_pos (hcap.resolve_left hp), raise]
  · rw [hashOf_plen, paddedLength_eq]
    exact Nat.mod_eq_of_lt (paddedLen_lt_of_admits hadmits)
  · rw [hashOf_bidx, paddedLength_div_blockBytes]
    exact Nat.mod_eq_of_lt (blocksOf_lt v s)
  · rw [(hashOf_dlen_of_admits hadmits).1, outputLength_eq]
  · rw [paddedLength_eq] at ha
    exact hashOf_peek_pbuf v s ha
  · rw [paddedLength_eq, outputLength_eq]
    refine (frame_hashOf v s).mono ?_ fun _ _ => id
    rintro r (hplen | hdlen | hbidx | hfile)
    · exact .inl hplen
    · exact .inr (.inr (.inl hdlen))
    · exact .inr (.inl hbidx)
    · exact .inr (.inr (.inr hfile))

/-! The step sequence of R335, one issued command after another. -/

theorem step_init {v : Variant} {s : State} (hf : s.faulted = false) (rest : List HostOp) :
    step (withOps s (command v.init :: rest)) = .next (withOps (s.initOf v) rest) := by
  rw [step_command hf, exec_init, initOf_withOps]

theorem step_pad {v : Variant} {s : State} (hm : s.mlen.toNat ≤ s.cfg.msgCap)
    (hp : v.paddedLen s.mlen.toNat ≤ s.cfg.pbufCap) (hf : s.faulted = false) (rest : List HostOp) :
    step (withOps s (command v.pad :: rest)) = .next (withOps (s.padOf v) rest) := by
  have hexec : exec v.pad (withOps s rest) = .next ((withOps s rest).padOf v) := by
    rw [exec_pad, padCommand_next (s := withOps s rest) _ hm hp]
  rw [step_command hf, hexec, padOf_withOps]

theorem step_block {v : Variant} {s : State} (hcap : s.plen.toNat ≤ s.cfg.pbufCap)
    (hblock : v.blockSize * (s.bidx.toNat + 1) ≤ s.plen.toNat) (hf : s.faulted = false) (rest : List HostOp) :
    step (withOps s (command v.blockCmd :: rest)) = .next (withOps (s.blockOf v) rest) := by
  have hexec : exec v.blockCmd (withOps s rest) = .next ((withOps s rest).blockOf v) := by
    rw [exec_blockCmd, blockCommand_next (s := withOps s rest) _ hcap hblock]
  rw [step_command hf, hexec, blockOf_withOps]

theorem step_out {v : Variant} {s : State} (hL : s.outLen v ≤ s.cfg.doutCap) (hf : s.faulted = false)
    (rest : List HostOp) : step (withOps s (command v.out :: rest)) = .next (withOps (s.outOf v) rest) := by
  have hfits : (withOps s rest).outLen v ≤ (withOps s rest).cfg.doutCap := hL
  have hexec : exec v.out (withOps s rest) = .next ((withOps s rest).outOf v) := by
    rw [exec_out, squeezeCommand_next _ hfits, ite_self]
  rw [step_command hf, hexec, outOf_withOps]

/-- The block command `n` times, with `n` whole blocks of PBUF[0..PLEN) still to come: no test fails. -/
theorem run_blocks {v : Variant} {n : Nat} {s : State} (hcap : s.plen.toNat ≤ s.cfg.pbufCap)
    (hblocks : v.blockSize * (s.bidx.toNat + n) ≤ s.plen.toNat) (hf : s.faulted = false) (rest : List HostOp) :
    Host.Core.run core n (withOps s (List.replicate n (command v.blockCmd) ++ rest)) =
      .next (withOps ((State.blockOf v)^[n] s) rest) := by
  induction n generalizing s with
  | zero => rfl
  | succ n ih =>
    have hfirst : v.blockSize * (s.bidx.toNat + 1) ≤ s.plen.toNat :=
      (Nat.mul_le_mul_left _ (by omega)).trans hblocks
    have hstep := step_block hcap hfirst hf (List.replicate n (command v.blockCmd) ++ rest)
    have hrule := blockRule_of_variant (v := v) rfl rfl (result := fun s t => t = s.blockOf v) fun _ => rfl
    obtain ⟨_, _, rfl, hbidx, _⟩ := (hrule.2 s).2 hcap hfirst
    have hrest : v.blockSize * ((s.blockOf v).bidx.toNat + n) ≤ (s.blockOf v).plen.toNat := by
      rwa [hbidx, blockOf_plen, Nat.add_assoc, Nat.add_comm 1 n]
    rw [List.replicate_succ, List.cons_append, run_step hstep, Function.iterate_succ_apply]
    exact ih (by rwa [blockOf_plen, blockOf_cfg]) hrest ((faulted_congr (blockOf_status v s)).trans hf)

theorem stepSequence_append (v : Variant) (n : Nat) (rest : List HostOp) :
    stepSequence v n ++ rest =
      command v.init :: command v.pad :: (List.replicate n (command v.blockCmd) ++ command v.out :: rest) := by
  simp [stepSequence]

/-- Where HASH.v is admitted the step sequence runs through, to the state HASH.v leaves (R262, R335). -/
theorem run_stepSequence {v : Variant} {s : State} (h : Admits v s) (hf : s.faulted = false) (rest : List HostOp) :
    Host.Core.run core (s.blocksOf v + 3) (withOps s (stepSequence v (s.blocksOf v) ++ rest)) =
      .next (withOps (s.hashOf v) rest) := by
  have h64 := paddedLen_lt_of_admits h
  obtain ⟨_, hm, hp, hL⟩ := h
  rw [paddedLength_eq] at hp
  rw [outputLength_eq] at hL
  have hplen : ((s.initOf v).padOf v).plen.toNat = v.paddedLen s.mlen.toNat := by
    rw [padOf_plen, initOf_mlen]
    exact Nat.mod_eq_of_lt h64
  have hbidx : ((s.initOf v).padOf v).bidx.toNat = 0 := by rw [padOf_bidx, initOf_bidx]; rfl
  have hfinit : (s.initOf v).faulted = false := (faulted_congr (initOf_status v s)).trans hf
  have hfpad : ((s.initOf v).padOf v).faulted = false := (faulted_congr (padOf_status v _)).trans hfinit
  have hfblocks : (hashBlocks v s).faulted = false :=
    (faulted_congr (iterate_blockOf State.status (blockOf_status v) _ _)).trans hfpad
  have hpad := step_pad (v := v) (s := s.initOf v) (by simpa using hm) (by simpa using hp) hfinit
  have hblocks := run_blocks (v := v) (n := s.blocksOf v) (s := (s.initOf v).padOf v) (by simpa [hplen] using hp)
    (by rw [hbidx, hplen, Nat.zero_add, blockSize_mul_blocksOf]) hfpad
  have hout := step_out (v := v) (s := hashBlocks v s) (by simpa [hashBlocks] using hL) hfblocks
  rw [stepSequence_append]
  exact (run_step (step_init hf _) _).trans <| (run_step (hpad _) _).trans <|
    (run_append (hblocks _) 1).trans (run_step (hout rest) 0)

/-- Settles O49: both runs end where the effect of HASH.v does. -/
theorem hashIsTheStepSequence : Obligations.HashIsTheStepSequence := by
  intro v s rest hadmits hf
  rw [paddedLength_div_blockBytes]
  exact ⟨s.hashOf v, exec_hash_of_admits hadmits, hashOf_status v s, run_stepSequence hadmits hf rest,
    run_step (step_hash hadmits hf rest) 0⟩

end Sys2Proof.Machine
end

section
/-! PROOFS. Taking the Fault (O12, O13), and which command raises which (O14): a command is its faults of the table of
R303 and, where the table gives none, its effect; said of each command skeleton, then of every command. -/

namespace Sys2Proof.Machine

open Sys2Proof.Claims

/-! STATUS after a Fault. -/

/-- Setting FAULT and FCODE touches bit 0 and bits 11:8 alone (R36, R301). -/
theorem getLsbD_statusWithFault (st : Word32) (c : BitVec 4) {n : Nat} (h0 : n ≠ 0) (hn : n < 8 ∨ 12 ≤ n) :
    (statusWithFault st c).getLsbD n = st.getLsbD n := by
  by_cases h32 : n < 32
  · have hmasks : ∀ n < 32, n ≠ 0 → n < 8 ∨ 12 ≤ n →
        ((0xfffff0fe : Nat) : Word32).getLsbD n = true ∧ ((1 : Nat) : Word32).getLsbD n = false := by decide
    obtain ⟨hkept, hfault⟩ := hmasks n h32 h0 hn
    have hcode : (c.setWidth 32 <<< 8).getLsbD n = false := by
      rw [BitVec.getLsbD_shiftLeft, BitVec.getLsbD_setWidth]
      rcases hn with hn | hn
      · simp [hn]
      · simp [BitVec.getLsbD_of_ge c (n - 8) (by omega)]
    rw [statusWithFault, BitVec.getLsbD_or, BitVec.getLsbD_or, BitVec.getLsbD_and, hkept, hfault, hcode, Bool.and_true,
      Bool.or_false, Bool.or_false]
  · rw [BitVec.getLsbD_of_ge _ n (by omega), BitVec.getLsbD_of_ge _ n (by omega)]

theorem raised_of_faulted {s : State} (h : s.faulted = true) (c : FaultCode) : s.raised c = s := if_pos h

/-- What the host reads in STATUS after the first fault. -/
theorem hostRegRead_status_raised {s : State} (h : s.status = 0) (c : FaultCode) :
    (s.raised c).hostRegRead 0x01 = (statusWithFault 0 c.code).setWidth 64 := by
  have hread : (s.raised c).hostRegRead 0x01 = (s.raised c).status.setWidth 64 := hostRegRead_number _ .status
  have hfault : (0 : Word32).getLsbD 0 = false := rfl
  rw [hread, raised_status, h, hfault, if_neg Bool.false_ne_true]

/-- Settles O12: STATUS is then FAULT and the code. -/
theorem faultCodesReadBack : Obligations.FaultCodesReadBack := fun _ h =>
  ⟨⟨_, rfl, hostRegRead_status_raised h .illcmd⟩, ⟨_, rfl, hostRegRead_status_raised h .framing⟩,
    ⟨_, rfl, hostRegRead_status_raised h .cap⟩⟩

theorem effectOf_faulted (i : Instr) (s : State) : (effectOf i s).faulted = s.faulted :=
  faulted_congr (effectOf_unwritten i s).1

/-- Settles O13: a Fault replaces two fields of STATUS; and since no effect sets FAULT, a command that ends with FAULT 1
has raised it. -/
theorem faultIsPrecise : Obligations.FaultIsPrecise := by
  refine ⟨fun c s hf => congrArg _ (raised_of_faulted hf c), fun c s hf => ⟨_, rfl, raised_faulted c s, ?_, ?_,
    raised_eq c s⟩, fun i s t hf h ht => ?_⟩
  · rw [raised_of_not_faulted hf]
    exact statusWithFault_fcode _ _
  · rw [raised_of_not_faulted hf]
    exact fun n => getLsbD_statusWithFault _ _
  · rcases exec_cases h with ⟨c, rfl⟩ | rfl
    · exact ⟨c, rfl⟩
    · rw [effectOf_faulted, hf] at ht
      exact absurd ht Bool.false_ne_true

/-! The tests of R303. -/

/-- The Fault `f`, or with none the state `t`: how a command ends (R303). -/
def faultOr (s : State) (f : Option FaultCode) (t : State) : Result :=
  match f with
  | some c => raise c s
  | none => .next t

theorem faultOr_total (s : State) (f : Option FaultCode) (t : State) : ∃ u, faultOr s f t = .next u := by
  cases f <;> exact ⟨_, rfl⟩

/-- The test of R303 on an output of `L` bytes. -/
def doutTest (s : State) (L : Nat) : Option FaultCode := if s.cfg.doutCap < L then some .cap else none

theorem padCommand_eq_faultOr (v : Variant) (pad : State → State) (s : State) :
    padCommand v pad s = faultOr s (lengthTests s (v.paddedLen s.mlen.toNat)) (pad s) := by
  unfold padCommand lengthTests
  split_ifs <;> rfl

theorem blockCommand_eq_faultOr (v : Variant) (block : State → State) (s : State) :
    blockCommand v block s = faultOr s (blockTest s v.blockSize) (block s) := by
  unfold blockCommand blockTest
  split_ifs <;> rfl

theorem squeezeCommand_eq_faultOr (L : Nat) (squeeze : State → State) (s : State) :
    squeezeCommand L squeeze s = faultOr s (doutTest s L) (squeeze s) := by
  unfold squeezeCommand doutTest
  split_ifs <;> rfl

theorem hashCommand_eq_faultOr (v : Variant) (s : State) : hashCommand v s =
    faultOr s ((lengthTests s (v.paddedLen s.mlen.toNat)).or (doutTest s (s.outLen v))) (s.hashOf v) := by
  unfold hashCommand lengthTests doutTest
  split_ifs <;> rfl

/-- An output of R260's fixed lengths, at most 64 bytes, fits every legal DOUT (R7). -/
theorem doutTest_of_le {s : State} (hlegal : s.cfg.legal) {L : Nat} (hL : L ≤ 64) : doutTest s L = none := by
  obtain ⟨_, _, _, hdout, _⟩ := hlegal
  exact if_neg (by omega)

theorem hashCommand_eq_of_le {v : Variant} {s : State} (hlegal : s.cfg.legal) (hL : s.outLen v ≤ 64) :
    hashCommand v s = faultOr s (lengthTests s (v.paddedLen s.mlen.toNat)) (s.hashOf v) := by
  rw [hashCommand_eq_faultOr, doutTest_of_le hlegal hL, Option.or_none]

theorem squeezeCommand_eq_of_le {s : State} (hlegal : s.cfg.legal) {L : Nat} (hL : L ≤ 64)
    (squeeze : State → State) : squeezeCommand L squeeze s = .next (squeeze s) := by
  rw [squeezeCommand_eq_faultOr, doutTest_of_le hlegal hL, faultOr]

/-- A command is its faults of the table of R303 and, where the table gives none, its effect. -/
theorem exec_eq_faultOr {s : State} (hlegal : s.cfg.legal) (hdlen : s.dlen.toNat ≤ s.cfg.doutCap) (i : Instr) :
    exec i s = faultOr s (faultOf s i) (effectOf i s) := by
  cases i with
  | padMd5 | padSha1 | padSha224 | padSha256 | padSha384 | padSha512 | padSha3_224 | padSha3_256 | padSha3_384
  | padSha3_512 | padShake128 | padShake256 => exact padCommand_eq_faultOr _ _ s
  | compressMd5 | compressSha1 | compressSha224 | compressSha256 | compressSha384 | compressSha512 | absorbSha3_224
  | absorbSha3_256 | absorbSha3_384 | absorbSha3_512 | absorbShake128 | absorbShake256 =>
    exact blockCommand_eq_faultOr _ _ s
  | squeezeSha3_224 | squeezeSha3_256 | squeezeSha3_384 | squeezeSha3_512 =>
    exact squeezeCommand_eq_of_le hlegal (by decide) _
  | squeezeShake128 | squeezeShake256 => exact squeezeCommand_eq_faultOr _ _ s
  | hashMd5 | hashSha1 | hashSha224 | hashSha256 | hashSha384 | hashSha512 | hashSha3_224 | hashSha3_256 | hashSha3_384
  | hashSha3_512 => exact hashCommand_eq_of_le hlegal (by simp [State.outLen])
  | hashShake128 | hashShake256 => exact hashCommand_eq_faultOr _ s
  | hex => exact execHex_next hdlen
  | _ => rfl

/-- A word that is no command's raises F_ILLCMD (R77). -/
theorem issueCommand_of_ne_encode {s : State} (hf : s.faulted = false) {w : Word32} (h : ∀ i, w ≠ encode i) :
    issueCommand w s = .next (s.raised .illcmd) := by
  cases hdecode : decode w with
  | instr i => exact absurd (eq_encode_of_decode hdecode) (h i)
  | illegal why => exact issueCommand_of_illegal hf hdecode

/-- A command's word runs the command (R311). -/
theorem issueCommand_encode {s : State} (hf : s.faulted = false) (i : Instr) : issueCommand (encode i) s = exec i s :=
  issueCommand_of_instr hf (decode_encode i)

/-- Settles O14: a command is its faults and its effect, and no effect touches STATUS. -/
theorem faultConditions : Obligations.FaultConditions := by
  intro w s hlegal hdlen
  refine ⟨fun hf => issueCommand_of_faulted hf w, fun hf => issueCommand_of_ne_encode hf, ?_⟩
  rintro i rfl hf
  have hexec := exec_eq_faultOr hlegal hdlen i
  rw [issueCommand_encode hf, hexec]
  refine ⟨fun c hc => ?_, fun hnone => ⟨effectOf i s, ?_⟩⟩
  · rw [hc]
    exact ⟨rfl, rfl⟩
  · rw [hnone]
    exact ⟨rfl, rfl, (effectOf_unwritten i s).1⟩

end Sys2Proof.Machine
end

section
/-! PROOFS. A step: it runs the command its word decodes to (O4), and under the invariant it always answers a next state
(O18). -/

namespace Sys2Proof.Machine

open Sys2Proof.Claims

theorem decodeTableWord_eq_some {nbits w : Nat} {i : Instr} (h : decodeTableWord nbits w = some i) :
    decode (BitVec.ofNat 32 (w % 2 ^ nbits)) = .instr i := by
  unfold decodeTableWord at h
  split at h
  · rwa [← Option.some.inj h]
  · cases h

/-- With a write of a command's word to CMD next, and no fault recorded, a step is that command (R311). -/
theorem step_of_decode {s : State} {v : Word64} {rest : List HostOp} {i : Instr}
    (hp : s.pending = .regWrite 0x00 v :: rest) (hf : s.faulted = false) (h : decode (v.setWidth 32) = .instr i) :
    step s = exec i (withOps s rest) := by
  rw [step_cons hp]
  exact issueCommand_of_instr (s := withOps s rest) hf h

/-- Settles O4: by what issuing a word does, and `withFetchWord` puts such a write first. -/
theorem stepRunsTheDecodedCommand : Obligations.StepRunsTheDecodedCommand := by
  refine ⟨fun s v rest i => step_of_decode, fun s nbits w i hf h => ?_⟩
  refine step_of_decode (s := s.withFetchWord nbits w) rfl hf ?_
  rw [BitVec.setWidth_ofNat_of_le (by decide)]
  exact decodeTableWord_eq_some h

theorem exec_total {s : State} (hlegal : s.cfg.legal) (hdlen : s.dlen.toNat ≤ s.cfg.doutCap) (i : Instr) :
    ∃ t, exec i s = .next t := by
  rw [exec_eq_faultOr hlegal hdlen]
  exact faultOr_total _ _ _

theorem issueCommand_total {s : State} (hlegal : s.cfg.legal) (hdlen : s.dlen.toNat ≤ s.cfg.doutCap) (w : Word32) :
    ∃ t, issueCommand w s = .next t := by
  unfold issueCommand
  split
  · exact ⟨s, rfl⟩
  · split
    · exact ⟨_, rfl⟩
    · exact exec_total hlegal hdlen _

/-- Of the host's primitives only a write to CMD could stop, for it alone runs a command. -/
theorem hostStep_total {s : State} (hlegal : s.cfg.legal) (hdlen : s.dlen.toNat ≤ s.cfg.doutCap) (op : HostOp) :
    ∃ t, hostStep op s = .next t := by
  cases op with
  | regRead k | memRead sp a | memWrite sp a b | reset => exact ⟨_, rfl⟩
  | regWrite k v =>
    by_cases hk : k = 0x00
    · subst hk
      exact issueCommand_total hlegal hdlen (v.setWidth 32)
    · obtain ⟨t, ht, -⟩ := hostRegisterWrite s k v hk
      exact ⟨t, ht⟩

/-- Settles O18: CORE waits, or performs the next primitive. -/
theorem stepIsTotal : Obligations.StepIsTotal := by
  intro s hs
  cases hp : s.pending with
  | nil => exact ⟨s, step_nil hp⟩
  | cons op rest =>
    rw [step_cons hp]
    exact hostStep_total (s := { s with pending := rest }) hs.cfg hs.dlen op

end Sys2Proof.Machine
end

section
/-! PROOFS. Hazards of the step sequence: INIT.v and PAD.v in either order (O50), a second SHAKE squeeze (O47), and a
step with no primitive to come (O5). -/

namespace Sys2Proof.Machine

open Sys2Proof.Claims

/-! INIT.v and PAD.v. -/

/-- INIT.v writes the state file and BIDX, PAD.v writes PBUF and PLEN; neither reads what the other writes (R335). -/
theorem padOf_initOf (v : Variant) (s : State) : (s.initOf v).padOf v = (s.padOf v).initOf v := by
  rw [padOf_eq, padOf_eq, initOf_mlen, initOf_message]
  cases v <;> rfl

/-- Settles O50: both orders run through, and the two effects commute. -/
theorem initAndPadCommute : Obligations.InitAndPadCommute := by
  intro v s rest hf hm hp
  rw [paddedLength_eq] at hp
  have hfinit : (s.initOf v).faulted = false := (faulted_congr (initOf_status v s)).trans hf
  have hfpad : (s.padOf v).faulted = false := (faulted_congr (padOf_status v s)).trans hf
  have hpad := step_pad (v := v) (s := s.initOf v) (by simpa using hm) (by simpa using hp) hfinit rest
  have hinit := step_init (v := v) hfpad rest
  rw [← padOf_initOf] at hinit
  exact ⟨withOps ((s.initOf v).padOf v) rest, (run_step (step_init hf _) 1).trans (run_step hpad 0),
    (run_step (step_pad hm hp hf _) 1).trans (run_step hinit 0)⟩

/-! Squeezing twice. -/

/-- After a squeeze that ran `k` permutations KA is `k` permutations on, so that a second squeeze gives the bytes from
`r * k` onward of what one squeeze of the first state gives (R337). -/
theorem squeezeRule_twice {word : Word32} {i : Instr} {r : Nat} (h : SqueezeRule word i r fun s => s.olen.toNat)
    (hr : 0 < r) {s : State} {L1 L2 L : Word64} (hlegal : s.cfg.legal) (hL1 : L1.toNat ≤ s.cfg.doutCap)
    (hL2 : L2.toNat ≤ s.cfg.doutCap) (hL : L.toNat ≤ s.cfg.doutCap) :
    ∃ t u w, exec i { s with olen := L1 } = .next t ∧ exec i { t with olen := L2 } = .next u ∧
      exec i { s with olen := L } = .next w ∧
      ∀ a, a < L2.toNat → r * permutationsOf r L1.toNat + a < L.toNat →
        u.peek .dout a = w.peek .dout (r * permutationsOf r L1.toNat + a) := by
  obtain ⟨t, ht, -, -, hka, hframe⟩ := (h.2 { s with olen := L1 } hlegal).2 hL1
  obtain ⟨hcfg, -⟩ := hframe.own_eq
  obtain ⟨u, hu, -, hubyte, -⟩ := (h.2 { t with olen := L2 } (hcfg ▸ hlegal)).2 (hcfg ▸ hL2)
  obtain ⟨w, hw, -, hwbyte, -⟩ := (h.2 { s with olen := L } hlegal).2 hL
  refine ⟨t, u, w, ht, hu, hw, fun a ha haL => ?_⟩
  have hplace : r * (a / r) + a % r = a := Nat.div_add_mod a r
  have hplaceL : r * (a / r + permutationsOf r L1.toNat) + a % r = r * permutationsOf r L1.toNat + a := by
    rw [Nat.mul_add]
    omega
  have hpeek := hubyte (a / r) (a % r) (Nat.mod_lt a hr) (by rwa [hplace])
  have hpeekL := hwbyte (a / r + permutationsOf r L1.toNat) (a % r) (Nat.mod_lt a hr) (by rwa [hplaceL])
  rw [hplace] at hpeek
  rw [hplaceL, Function.iterate_add_apply] at hpeekL
  rw [hpeek, hpeekL, hka]
  rfl

/-- Settles O47: the rule of either SQUEEZE, in the first state and after the first squeeze. -/
theorem squeezingTwice : Obligations.SqueezingTwice := by
  intro p hp s L1 L2 L hlegal hL1 hL2 hL
  simp only [List.mem_cons, List.not_mem_nil, or_false] at hp
  rcases hp with rfl | rfl
  · have hrule := squeezeRule_of_variant (v := .shake128) rfl (by decide)
    exact squeezeRule_twice hrule (by decide) hlegal hL1 hL2 hL
  · have hrule := squeezeRule_of_variant (v := .shake256) rfl (by decide)
    exact squeezeRule_twice hrule (by decide) hlegal hL1 hL2 hL

/-! With no primitive to come. -/

/-- Settles O5: CORE waits for the host (R331, log 4). -/
theorem stepWaitsForTheHost : Obligations.StepWaitsForTheHost := fun _ => step_nil

end Sys2Proof.Machine
end
